-- ==== Sys2Proof/Word.lean ====
section
/-! DEFINITION. The word types of the FN3208, at the widths the data sheet gives them. -/

namespace Sys2Proof

/-- One byte, on a link or in the array. -/
abbrev Byte := BitVec 8

/-- A 16-bit record key (section 1.1). -/
abbrev Key := BitVec 16

/-- A 32-bit generation (R3); 0 stands for "no generation" where a field must hold something. -/
abbrev Gen := BitVec 32

/-- The 32-bit numbers of a sector header: store epoch, erase count, open sequence (R53). -/
abbrev Word32 := BitVec 32

/-- A 16-bit job ticket, 1 to 65535 (R68). -/
abbrev Ticket := BitVec 16

/-- One 16-byte image line, the unit of programming (R48). -/
abbrev Line := BitVec 128

/-- The header line of a sector: the 22 bytes that the field widths of R53 add up to (log entry 1). -/
abbrev HeaderLine := BitVec 176

/-- A sector number, 0 to 31 (section 3.1). -/
abbrev Sector := Fin 32

/-- A transaction context by its index: index i is handle i + 1 (R23). -/
abbrev Handle := Fin 4

end Sys2Proof
end

