-- ==== Sys2Proof/Config.lean ====
section
/-! DEFINITION. What one implementation of the part fixes: the constants of the data sheet, the constants it leaves open
and the model chooses (each with its log entry), and the free values, which have no body. -/

namespace Sys2Proof.Config

/-- The start byte of every frame (R152). -/
def sync : Byte := 0xA5

/-- The byte that Link 0 shifts out at a byte position with no frame queued (R155). -/
def fill : Byte := 0xFF

/-- The largest LENGTH of a frame (R152). -/
def maxLength : Nat := 272

/-- Vendor code of the HELLO reply (R167). -/
def vendorCode : BitVec 16 := 0x0A17

/-- Part code of the HELLO reply (R167). -/
def partCode : BitVec 16 := 0x3208

/-- Revision of the HELLO reply (R167). -/
def revision : Byte := 0x01

/-- Outbound frame slots of a link (R151). -/
def outboundSlots : Nat := 16

/-- Places of a link's inbound FIFO (R160). -/
def inboundPlaces : Nat := 4

/-- Places of the job queue (R66). -/
def queuePlaces : Nat := 8

/-- Entries of the directory (R5). -/
def directoryCapacity : Nat := 512

/-- Units of the staging pool (R34). -/
def poolUnits : Nat := 256

/-- Entries of the mark table (R82). -/
def markCapacity : Nat := 16

/-- Keys of a watch table (R190). -/
def watchCapacity : Nat := 8

/-- Staged entries of a context (R26). -/
def listCapacity : Nat := 16

/-- The key of the zone record (section 1.1). -/
def zoneKey : Key := 0xFFE0

/-- The erase-count spread from which a background pass makes the wear choice (R95). -/
def wearSpread : Nat := 256

/-- The generation counter value from which the store goes READ_ONLY (R4). -/
def generationLimit : Nat := 0xFFFFFF00

/-- The identity pattern of a prepared block. R53 says it is a fixed 32-bit value and does not give it.
DESIGN CHOICE (log entry 2), unsafe. -/
def identityPattern : Word32 := 0x464E3038

/-- FREE VALUE: the open-sequence counter after the value 0xFFFFFFFF has been given. R59 says that the counter does not reach
its limit and gives no value there (log entry 3). -/
opaque openSequencePastLimit : Word32

/-- FREE VALUE: the live capacity while fewer than 2 sectors are not retired. The formula of R13 is negative there and the rule
states no figure (log entry 4). -/
opaque liveCapacityBelowTwo : Nat → BitVec 16

end Sys2Proof.Config
end

