-- ==== Sys2Proof/Syntax.lean ====
section
/-! DEFINITION. The commands of the part: one constructor of Instr for each row of spec/opcode_table.json, with the operands the
step takes from outside the part (bytes on a link, pin levels, what the cell array reads back). Everything else a step needs is
in the state: a request step finds its request in the inbound FIFOs (log entry 5). -/

namespace Sys2Proof

/-- The two links (R151). -/
inductive Link where
  | link0
  | link1
  deriving DecidableEq, Repr

/-- The supply state (R142), and the level of VDD against the NORMAL-entry threshold when reset is released. -/
inductive Supply where
  | normal
  | low
  deriving DecidableEq, Repr

/-- The level of the WP pin as a check samples it (R132). -/
inductive Wp where
  | deasserted
  | asserted
  deriving DecidableEq, Repr

/-- The rate of Link 1, as the BAUD strap gives it: low is 115200 bit/s, high 921600 bit/s (R157). -/
inductive UartRate where
  | baud115200
  | baud921600
  deriving DecidableEq, Repr

/-- What a line reads back as when its program completes (R49): exactly the expected content, or whatever the array left. For an
image line the low 128 bits count. -/
inductive LineReadback where
  | asExpected
  | reads (bits : HeaderLine)
  deriving DecidableEq, Repr

/-- The content of a whole sector: its header line, and its image lines that are not erased, by line number. -/
structure SectorContent where
  header : HeaderLine
  lines : List (Nat × Line)
  deriving DecidableEq, Repr

/-- What a sector reads back as when its erase completes (R50): all ones, or whatever the array left. -/
inductive EraseReadback where
  | asExpected
  | reads (content : SectorContent)
  deriving DecidableEq, Repr

/-- The whole bytes that a link has moved since its last command (log entry 6). On Link 0 each byte position of a window moves one byte
in each direction, so as many bytes have gone out as have come in (R154). On Link 1 the two directions are apart: `tx` is how many
characters have been sent (R157). -/
inductive Traffic where
  | spi (rx : List Byte)
  | uart (rx : List Byte) (tx : Nat)
  deriving DecidableEq, Repr

/-- The link that has moved the bytes. -/
def Traffic.link : Traffic → Link
  | .spi _ => .link0
  | .uart _ _ => .link1

/-- The bytes received, in order. -/
def Traffic.rx : Traffic → List Byte
  | .spi rx => rx
  | .uart rx _ => rx

/-- How many bytes the part has had the occasion to send: one for each byte position of Link 0 (R154). -/
def Traffic.count : Traffic → Nat
  | .spi rx => rx.length
  | .uart _ tx => tx

/-- The link that a byte has come in on: Link 0, or Link 1 with how many characters it has sent since its last command. -/
inductive Port where
  | spi
  | uart (tx : Nat)
  deriving DecidableEq, Repr

/-- The traffic of a link on which these bytes have come in. -/
def Port.traffic (port : Port) (rx : List Byte) : Traffic :=
  match port with
  | .spi => .spi rx
  | .uart tx => .uart rx tx

/-- The commands, one per row of the table, in the table's order. A command of a link carries the traffic of that link since its last
command: `rx` the whole bytes received, with `last` the one that brings the event about, and on Link 1 `tx` how many characters have been
sent (log entry 6). -/
inductive Instr where
  /-- FRAME_RECEIVED (R153, R158): `last` completes a CHECK. -/
  | frameReceived (port : Port) (rx : List Byte) (last : Byte)
  /-- CS_RISE on Link 0 (R154): `bits` came in of a byte that is incomplete when CSn rises. -/
  | csRise (rx : List Byte) (bits : List Bool)
  /-- UART_FRAMING_ERROR on Link 1 (R157). -/
  | uartFramingError (rx : List Byte) (tx : Nat)
  /-- GAP_TIMER_EXPIRY on Link 1 (R157). -/
  | gapTimerExpiry (rx : List Byte) (tx : Nat)
  /-- FRAME_SENT (R155, R157). -/
  | frameSent (traffic : Traffic)
  /-- RESET (R143): `torn` says which bits a cut-off line program left unprogrammed, `left` what a cut-off erase left (R52). -/
  | reset (torn : HeaderLine) (left : SectorContent)
  /-- RESET_RELEASE (R112): the supply state and the BAUD strap as sampled. -/
  | resetRelease (supply : Supply) (rate : UartRate)
  /-- SUPPLY_LOW (R142). -/
  | supplyLow
  /-- SUPPLY_NORMAL (R150). -/
  | supplyNormal
  /-- IDLE_TIMER_EXPIRY of a context (R39). -/
  | idleTimerExpiry (handle : Handle)
  /-- LINE_PROGRAM_DONE (R49). -/
  | lineProgramDone (readback : LineReadback)
  /-- SECTOR_ERASE_DONE (R50). -/
  | sectorEraseDone (readback : EraseReadback)
  /-- JOB_START (R72). -/
  | jobStart
  /-- BACKGROUND_PASS_START (R96). -/
  | backgroundPassStart
  /-- PASS_RESUME (R106). -/
  | passResume
  /-- HELLO (R167). -/
  | hello
  /-- STAT (R170); it samples WP. -/
  | stat (wp : Wp)
  /-- SECTORS (R171). -/
  | sectors
  /-- LINKSTAT (R172). -/
  | linkstat
  /-- READ_COMMITTED (R8). -/
  | readCommitted
  /-- READ_OWN (R45). -/
  | readOwn
  /-- LIST (R9). -/
  | list
  /-- WRITE (R175); its zone step samples WP. -/
  | write (wp : Wp)
  /-- DELETE (R176); its zone step samples WP. -/
  | delete (wp : Wp)
  /-- BEGIN (R25). -/
  | begin
  /-- STAGE (R27); its zone step samples WP. -/
  | stage (wp : Wp)
  /-- UNSTAGE (R36). -/
  | unstage
  /-- COMMIT (R41); its zone recheck samples WP. -/
  | commit (wp : Wp)
  /-- ABORT (R37). -/
  | abort
  /-- TXNINFO (R46). -/
  | txninfo
  /-- WATCH_ADD (R191). -/
  | watchAdd
  /-- WATCH_REMOVE (R192). -/
  | watchRemove
  /-- WATCH_CLEAR (R192). -/
  | watchClear
  /-- NOTICES (R178). -/
  | notices
  /-- ZONES (R141). -/
  | zones
  /-- ZONE_SET_DEFINE (R136); its step 7 samples WP. -/
  | zoneSetDefine (wp : Wp)
  /-- ZONE_SET_CLEAR (R137); its step 7 samples WP. -/
  | zoneSetClear (wp : Wp)
  /-- RECLAIM (R179). -/
  | reclaim
  /-- FORMAT (R180). -/
  | format
  /-- BAD_TYPE (R168). -/
  | badType
  /-- FRAME_ABANDONED (R153): `last` is a second LENGTH byte. -/
  | frameAbandoned (port : Port) (rx : List Byte) (last : Byte)
  deriving DecidableEq, Repr

end Sys2Proof
end

