-- ==== Sys2Proof/WellFormed.lean ====
section
/-! DEFINITION. Which commands are well formed: the checks a sender of commands must meet. exec is total and gives every command a
meaning; the checks say which operands stand for something the part's surroundings can do. -/

namespace Sys2Proof

/-- Line numbers that rise strictly from above `last` and stay within the image lines 1 to 255. -/
def risingLines : Nat → List (Nat × Line) → Bool
  | _, [] => true
  | last, (n, _) :: rest => decide (last < n) && decide (n ≤ 255) && risingLines n rest

/-- The content of a sector names each image line at most once, in rising order, and no line outside 1 to 255 (section 3.1). -/
def SectorContent.wf (c : SectorContent) : Bool :=
  risingLines 0 c.lines

/-- The checks of each command. An incomplete byte has at most 7 bits (R154), and FRAME_SENT is brought about by a byte that goes out, so its
traffic holds at least one. Whether a failed erase may leave the header it reads back is exec's own check (R50). -/
def Instr.wf : Instr → Bool
  | .csRise _ bits => decide (bits.length ≤ 7)
  | .frameSent traffic => decide (traffic.count ≠ 0)
  | .reset _ left => left.wf
  | .sectorEraseDone (.reads content) => content.wf
  | .sectorEraseDone .asExpected => true
  | .frameReceived _ _ _ | .frameAbandoned _ _ _ | .uartFramingError _ _ | .gapTimerExpiry _ _ | .resetRelease _ _ | .supplyLow | .supplyNormal => true
  | .idleTimerExpiry _ | .lineProgramDone _ | .jobStart | .backgroundPassStart | .passResume | .hello | .stat _ | .sectors => true
  | .linkstat | .readCommitted | .readOwn | .list | .write _ | .delete _ | .begin | .stage _ | .unstage | .commit _ | .abort => true
  | .txninfo | .watchAdd | .watchRemove | .watchClear | .notices | .zones | .zoneSetDefine _ | .zoneSetClear _ | .reclaim => true
  | .format | .badType => true

end Sys2Proof
end

