-- ==== Sys2Proof/Machine/State.lean ====
section
/-! DEFINITION. The state of the part as plain data, block by block, and the state that a reset leaves. -/

namespace Sys2Proof.Machine

/-- Reasons the machine stops with a fault. The data sheet gives none: every step of the table has an effect in every state, so
the type has no constructor. -/
inductive Fault where
  deriving DecidableEq, Repr

/-- Reasons a command is refused. -/
inductive Refusal where
  /-- Raised by exec's arm of a command that has no meaning yet; safe. No arm raises it now. -/
  | notModelled (mnemonic : String)
  deriving DecidableEq, Repr

/-! ### Links (R151) -/

/-- The receive machine (R153): its state with the fields and bytes gathered so far. -/
inductive Rx where
  | hunt
  | header (got : List Byte)
  | body (length : Nat) (tag typ : Byte) (got : List Byte)
  | check (length : Nat) (tag typ : Byte) (payload : List Byte) (first : Option Byte)
  deriving DecidableEq, Repr

/-- A request taken into an inbound FIFO: its TAG, TYPE and payload (R151). -/
structure Request where
  tag : Byte
  typ : Byte
  payload : List Byte
  deriving DecidableEq, Repr

/-- A whole reply or notice frame in an outbound slot (R152); SYNC, LENGTH and CHECK follow from these fields. -/
structure Frame where
  tag : Byte
  typ : Byte
  payload : List Byte
  deriving DecidableEq, Repr

/-- The retry cache's content: TAG, TYPE and reply of the last completed request (R159). -/
structure RetryEntry where
  tag : Byte
  typ : Byte
  reply : Frame
  deriving DecidableEq, Repr

/-- READ_ONLY causes (R19). -/
inductive Cause where
  | media
  | capacity
  | noProgress
  | directory
  | generation
  deriving DecidableEq, Repr

/-- The store state, with the cause in READ_ONLY (R18, R19). -/
inductive Store where
  | mounting
  | blank
  | ready
  | readOnly (cause : Cause)
  | formatting
  deriving DecidableEq, Repr

/-- Job kinds as JOB_DONE reports them (R182). -/
inductive JobKind where
  | commit
  | soloWrite
  | soloDelete
  | zoneUpdate
  | reclaimReq
  | format
  deriving DecidableEq, Repr

/-- Job results (R181). -/
inductive JobResult where
  | ok
  | mediaFail
  | storeReadOnly
  | noSpace
  deriving DecidableEq, Repr

/-- Notices with the contents fixed when they are raised (R185, R186); TAG and lost count come at admission. -/
inductive Notice where
  | mounted (store : Store) (keys : Nat) (generationNext : Gen) (retired : Nat) (epoch : Word32)
  | jobDone (ticket : Ticket) (kind : JobKind) (result : JobResult) (generation : Gen)
  | keyChanged (key : Key) (generation : Gen) (deleted : Bool)
  | txnExpired (handle : Handle)
  | supply (supply : Supply)
  | storeState (store : Store)
  deriving DecidableEq, Repr

/-- One link framer (R151). -/
structure Framer where
  /-- receive state -/
  rx : Rx
  /-- inbound FIFO, head first -/
  fifo : List Request
  /-- the link's request in service at the executor (R160) -/
  inService : Option Request
  /-- occupied outbound slots, in the order they were entered -/
  out : List Frame
  /-- how many bytes of the head frame have gone out completely (R155) -/
  sent : Nat
  /-- the bytes that the link's latest traffic moved out, in order: on Link 0 one for each byte position, on Link 1 the characters sent
  (R155, R157, R164; the model's own record of the SDO and TXD pins, log entry 6) -/
  wire : List Byte
  /-- reply reservations -/
  reservations : Nat
  /-- JOB_DONE backlog, head first (R163) -/
  backlog : List Notice
  /-- retry cache -/
  retry : Option RetryEntry
  /-- notice sequence -/
  sequence : Byte
  /-- lost count -/
  lost : Byte
  /-- link statistics (R165) -/
  goodFrames : Word32
  checkErrors : Word32
  cutFrames : Word32
  dropped : Word32
  lostNotices : Word32
  /-- notice mask, bits 0 to 4 as R182 numbers them -/
  mask : BitVec 5
  /-- watch table (R190) -/
  watches : List Key
  deriving DecidableEq, Repr

/-! ### Directory and marks -/

/-- A place in the array: the header line of an image (R5). -/
structure Loc where
  sector : Sector
  line : Nat
  deriving DecidableEq, Repr

/-- Tagging of an image (R61). -/
inductive Tagging where
  | solo
  | tagged
  deriving DecidableEq, Repr

/-- State of a directory entry (R5). -/
inductive EntryState where
  | live
  | deleted
  deriving DecidableEq, Repr

/-- A directory entry (R5). -/
structure DirEntry where
  key : Key
  state : EntryState
  loc : Loc
  length : Nat
  generation : Gen
  tagging : Tagging
  deriving DecidableEq, Repr

/-- A mark-table entry (R82). -/
structure MarkEntry where
  generation : Gen
  loc : Loc
  dependents : Nat
  deriving DecidableEq, Repr

/-! ### Transactions (R23, R26, R32) -/

/-- A staged change (R26): a value, whose bytes lie in ceil(length/16) pool units, or a deletion. -/
inductive Change where
  | value (bytes : List Byte)
  | delete
  deriving DecidableEq, Repr

/-- A staged entry (R26). -/
structure Staged where
  key : Key
  change : Change
  base : Option Gen
  deriving DecidableEq, Repr

/-- A transaction context (R23), with the fields each state has. -/
inductive Context where
  | free
  | opened (owner : Link) (timeout : Nat) (idle : Nat) (staged : List Staged)
  | committing (owner : Link) (timeout : Nat) (staged : List Staged) (ticket : Ticket)
  deriving DecidableEq, Repr

/-- The holder of a key (R32). -/
inductive Holder where
  | context (handle : Handle)
  | job (ticket : Ticket)
  deriving DecidableEq, Repr

/-! ### Zones (R130) -/

/-- A defined zone. -/
structure Zone where
  low : Key
  high : Key
  link0Write : Bool
  link1Write : Bool
  guarded : Bool
  frozen : Bool
  deriving DecidableEq, Repr

/-- The zone table: eight zones, none where undefined. -/
abbrev ZoneTable := Vector (Option Zone) 8

/-! ### Jobs and the array engine (R67, R70) -/

/-- What a job does, with the fields its kind has (R67). -/
inductive Work where
  | commit (handle : Handle)
  | soloWrite (key : Key) (value : List Byte)
  | soloDelete (key : Key)
  | zoneUpdate (table : ZoneTable)
  | reclaimReq
  | format
  deriving DecidableEq, Repr

/-- A job record (R67). -/
structure Job where
  ticket : Ticket
  work : Work
  origin : Link
  /-- reserved lines, n of R15 -/
  lines : Nat
  /-- reserved slots, s of R15 -/
  slots : Nat
  deriving DecidableEq, Repr

/-- Kinds of image (R61). -/
inductive ImageKind where
  | value
  | tombstone
  | mark
  deriving DecidableEq, Repr

/-- An image to be written (R61); a TOMBSTONE or MARK has no value bytes, and the key of a MARK is not used. -/
structure Image where
  kind : ImageKind
  tagging : Tagging
  key : Key
  generation : Gen
  value : List Byte
  deriving DecidableEq, Repr

/-- The image being written, with the failure count of R85 and, for a copy, its source. -/
structure Writing where
  image : Image
  source : Option Loc
  failures : Nat
  deriving DecidableEq, Repr

/-- A fold (R84): the generation folded and the key from which the directory walk goes on. -/
structure Fold where
  generation : Gen
  nextKey : Nat
  deriving DecidableEq, Repr

/-- The job in progress (R72). -/
structure Running where
  job : Job
  /-- the generation assigned at the start; 0 for RECLAIM_REQ and FORMAT -/
  generation : Gen
  /-- where the job's images that have passed lie, in order, the MARK last -/
  placed : List Loc
  /-- the image the job or its fold is writing or making room for -/
  writing : Option Writing
  fold : Option Fold
  /-- the next sector a FORMAT treats (R80) -/
  formatNext : Nat
  deriving DecidableEq, Repr

/-- Reclaim modes (R93). -/
inductive PassMode where
  | background
  | urgent
  deriving DecidableEq, Repr

/-- Engine states (R70). -/
inductive Engine where
  | mounting
  | idle
  | running
  | folding
  | reclaiming (mode : PassMode)
  | paused
  deriving DecidableEq, Repr

/-- Reclaim phases other than NONE (R93), with the cursor in COPYING. -/
inductive PassPhase where
  | marking
  | copying (cursor : Nat)
  | erasing
  | preparing
  deriving DecidableEq, Repr

/-- A reclaim pass, running or suspended (R93); the context in phase NONE is the absence of a pass. -/
structure Pass where
  phase : PassPhase
  victim : Sector
  mode : PassMode
  running : Bool
  /-- the copy being written -/
  copy : Option Writing
  deriving DecidableEq, Repr

/-! ### The sector manager and the cell array (R48 to R64) -/

/-- Sector states with the fields that are present in them (R55). -/
inductive SectorState where
  | unscanned
  | unprepared
  | erased
  | opened (openSequence : Word32) (cursor : Nat)
  | full (openSequence : Word32)
  | victim (openSequence : Word32)
  | retired
  deriving DecidableEq, Repr

/-- A record of the sector table (R55). -/
structure SectorRecord where
  state : SectorState
  eraseCount : Word32
  live : Nat
  pending : Nat
  stale : Nat
  deriving DecidableEq, Repr

/-- Bytes by address in canonical form: addresses strictly rising, no entry equal to the erased byte 0xFF. -/
abbrev Memory := List Host.Cell

/-- The cell array: the header line of each sector, and the bytes of the image lines at address sector * 4096 + line * 16. -/
structure CellArray where
  headers : Vector HeaderLine 32
  cells : Memory
  deriving DecidableEq, Repr

/-- Who writes an image: a job or its fold, or the reclaim unit. -/
inductive Writer where
  | host
  | reclaim
  deriving DecidableEq, Repr

/-- Who asked for an erase and its prepared block. -/
inductive Eraser where
  | reclaim
  | format
  | sweep
  deriving DecidableEq, Repr

/-- Why a header field is being programmed, that is, who acts on the result (R49). -/
inductive HeaderField where
  /-- the open sequence of an open request (R60) -/
  | openSequence (writer : Writer) (value : Word32)
  /-- the FULL mark before another sector is opened (R75, R85, R103) -/
  | close (writer : Writer)
  /-- the FULL mark after a failed image header (R63) -/
  | closeFailed (writer : Writer)
  /-- the FULL mark of mount's sweep (R125) -/
  | closeSwept
  | victimMark
  | preparedBlock (eraser : Eraser) (eraseCount : Word32)
  /-- the all-zero header of a retirement (R64) -/
  | retired
  deriving DecidableEq, Repr

/-- An array operation (R49, R50). The expected content is recorded when the operation is asked for. -/
inductive ArrayOp where
  /-- program of line `start.line + index` of an image that begins at `start` -/
  | image (writer : Writer) (start : Loc) (index : Nat) (pattern expected : Line)
  | header (sector : Sector) (field : HeaderField) (pattern expected : HeaderLine)
  | erase (sector : Sector) (eraser : Eraser)
  deriving DecidableEq, Repr

/-! ### Mount (R112) -/

/-- Classes of the header scan (R113). -/
inductive SectorClass where
  | retired
  | blank
  | stale
  | erased
  | opened
  | full
  | victim
  deriving DecidableEq, Repr

/-- Phases of mount (R112). -/
inductive MountPhase where
  | headerScan
  | imageScan
  | resolve
  | sweep
  | finish
  deriving DecidableEq, Repr

/-- A candidate of the image scan (R112). -/
structure Candidate where
  loc : Loc
  kind : ImageKind
  key : Key
  length : Nat
  generation : Gen
  tagging : Tagging
  openSequence : Word32
  inVictim : Bool
  deriving DecidableEq, Repr

/-- The mount record (R112), with the sweep's remaining work. -/
structure MountRecord where
  phase : MountPhase
  classes : List SectorClass
  candidates : List Candidate
  highestGeneration : Option Gen
  highestOpenSequence : Option Word32
  highestEraseCount : Option Word32
  highestEpoch : Option Word32
  /-- close list: sectors still to be given the FULL mark, ascending -/
  closeList : List Sector
  /-- the first READ_ONLY cause mount has met -/
  cause : Option Cause
  /-- sectors the sweep has still to erase, ascending (R124) -/
  eraseList : List Sector
  /-- VICTIM sectors whose pass the sweep has still to resume, in ascending order of open sequence (R126) -/
  victims : List Sector
  deriving DecidableEq, Repr

/-! ### The whole part -/

/-- The state of the part. -/
structure State where
  /-- the reset is held: RESET has been taken and RESET_RELEASE has not (R143) -/
  held : Bool
  -- store controller (R18, R19)
  store : Store
  -- directory and its accounting (R5, R13)
  directory : List DirEntry
  reservedLines : Nat
  slotReservations : Nat
  -- transaction manager (R23, R32, R34)
  contexts : Vector Context 4
  holds : List (Key × Holder)
  poolFree : Nat
  -- array engine (R66, R68, R70, R3, R82)
  queue : List Job
  nextTicket : Ticket
  generationNext : Gen
  marks : List MarkEntry
  engine : Engine
  running : Option Running
  -- reclaim unit (R93)
  pass : Option Pass
  -- sector manager and array (R55, R57, R59)
  sectors : Vector SectorRecord 32
  epoch : Word32
  openSequenceNext : Word32
  array : CellArray
  /-- the array operation in progress at the head, and operations asked for while a retired header is still being programmed -/
  ops : List ArrayOp
  -- mount sequencer (R112); none once mount has ended
  mount : Option MountRecord
  -- zone table in force (R130)
  zones : ZoneTable
  -- supply monitor (R142)
  supply : Supply
  -- link framers (R151), ATTN of LF0 (R156) and the rate of Link 1 (R157)
  lf0 : Framer
  lf1 : Framer
  attn : Bool
  uartRate : UartRate
  /-- round-robin pointer: the link served last (R161) -/
  lastServed : Link
  /-- the commands that wait, first in, first out (the model's own field) -/
  pending : List Instr
  deriving DecidableEq, Repr

/-- A framer after reset (R151). -/
def Framer.reset : Framer where
  rx := .hunt
  fifo := []
  inService := none
  out := []
  sent := 0
  wire := []
  reservations := 0
  backlog := []
  retry := none
  sequence := 0
  lost := 0
  goodFrames := 0
  checkErrors := 0
  cutFrames := 0
  dropped := 0
  lostNotices := 0
  mask := 0x1F
  watches := []

/-- A sector record after reset (R55). -/
def SectorRecord.reset : SectorRecord where
  state := .unscanned
  eraseCount := 0
  live := 0
  pending := 0
  stale := 0

/-- An array that has never been formatted: every bit erased (R54). -/
def CellArray.erased : CellArray where
  headers := Vector.replicate 32 (BitVec.allOnes 176)
  cells := []

/-- The mount record after reset: empty (R112). -/
def MountRecord.reset : MountRecord where
  phase := .headerScan
  classes := []
  candidates := []
  highestGeneration := none
  highestOpenSequence := none
  highestEraseCount := none
  highestEpoch := none
  closeList := []
  cause := none
  eraseList := []
  victims := []

/-- The part as a reset leaves it, with a given array and given waiting commands: all working memory is at its reset value, and
the array alone is kept (R143). -/
def State.resetWith (array : CellArray) (pending : List Instr) : State where
  held := true
  store := .mounting
  directory := []
  reservedLines := 0
  slotReservations := 0
  contexts := Vector.replicate 4 .free
  holds := []
  poolFree := Config.poolUnits
  queue := []
  nextTicket := 1
  generationNext := 0
  marks := []
  engine := .mounting
  running := none
  pass := none
  sectors := Vector.replicate 32 SectorRecord.reset
  epoch := 0
  openSequenceNext := 0
  array := array
  ops := []
  mount := some MountRecord.reset
  zones := Vector.replicate 8 none
  supply := .low
  lf0 := Framer.reset
  lf1 := Framer.reset
  attn := false
  uartRate := .baud115200
  lastServed := .link1
  pending := pending

/-- The part right after reset, with the reset still held: the array is one that has never been formatted (log entry 8), and no
command waits. -/
def State.reset : State :=
  State.resetWith CellArray.erased []

end Sys2Proof.Machine
end

