-- ==== Sys2Proof/Machine/Bytes.lean ====
section
/-! DEFINITION. Byte order, the CRC-16, and the counts of lines and units (R2, R34, R152). -/

namespace Sys2Proof.Machine

/-- The bytes of a 16-bit field, most significant first (section 10.9). -/
def be16 (w : BitVec 16) : List Byte :=
  [w.extractLsb' 8 8, w.extractLsb' 0 8]

/-- The bytes of a 32-bit field, most significant first. -/
def be32 (w : Word32) : List Byte :=
  [w.extractLsb' 24 8, w.extractLsb' 16 8, w.extractLsb' 8 8, w.extractLsb' 0 8]

/-- A number in a one-byte field. -/
def byteOf (n : Nat) : Byte :=
  BitVec.ofNat 8 n

/-- A number in a two-byte field. -/
def be16Nat (n : Nat) : List Byte :=
  be16 (BitVec.ofNat 16 n)

/-- A yes/no field. -/
def byteOfBool (b : Bool) : Byte :=
  if b then 1 else 0

/-- The 16-bit value of two bytes, most significant first. -/
def word16 (high low : Byte) : BitVec 16 :=
  high ++ low

/-- The 32-bit value of four bytes, most significant first. -/
def word32 (b3 b2 b1 b0 : Byte) : Word32 :=
  b3 ++ b2 ++ b1 ++ b0

/-- One bit of the CRC-16: polynomial 0x1021, no reflection (R53, R152). -/
def crcBit (c : BitVec 16) : BitVec 16 :=
  if c.msb then (c <<< 1) ^^^ 0x1021 else c <<< 1

/-- One byte of the CRC-16. -/
def crcByte (c : BitVec 16) (b : Byte) : BitVec 16 :=
  crcBit (crcBit (crcBit (crcBit (crcBit (crcBit (crcBit (crcBit (c ^^^ (b ++ (0 : Byte))))))))))

/-- The CRC-16 of a sequence of bytes: initial value 0xFFFF, no final inversion (R152). -/
def crc16 (bytes : List Byte) : BitVec 16 :=
  bytes.foldl crcByte 0xFFFF

/-- ceil(n / 16). -/
def ceil16 (n : Nat) : Nat :=
  (n + 15) / 16

/-- Pool units of a value of length n (R34). -/
def unitsOf (n : Nat) : Nat :=
  ceil16 n

/-- Lines of a VALUE image of length n (R2). -/
def valueLines (n : Nat) : Nat :=
  1 + ceil16 n

/-- Lines of an image of a kind and length (R2): only a VALUE has payload lines. -/
def linesOf (kind : ImageKind) (length : Nat) : Nat :=
  match kind with
  | .value => valueLines length
  | .tombstone => 1
  | .mark => 1

/-- Advance a counter that stays at its highest value (R165). -/
def saturatingSucc {w : Nat} (c : BitVec w) : BitVec w :=
  if c = BitVec.allOnes w then c else c + 1

/-- Byte i of a line, byte 0 the first. -/
def lineByte (l : Line) (i : Nat) : Byte :=
  l.extractLsb' (8 * (15 - i)) 8

/-- The line of up to 16 bytes, the first byte first, the rest left erased (R61). -/
def lineOfBytes (bytes : List Byte) : Line :=
  (List.range 16).foldl (fun acc i => (acc <<< 8) ||| (bytes.getD i 0xFF).setWidth 128) 0

/-- All the sectors, in ascending order. -/
def allSectors : List Sector :=
  List.finRange 32

/-- All the contexts, in ascending handle order. -/
def allHandles : List Handle :=
  List.finRange 4

/-- The element a comparison prefers over the ones before it in the list; the earliest of those that tie. -/
def selectBy {α : Type} (better : α → α → Bool) : List α → Option α
  | [] => none
  | a :: rest => some (rest.foldl (fun best b => if better b best then b else best) a)

/-- The larger of a number seen so far, if any, and a new one. -/
def maxSeen {w : Nat} (seen : Option (BitVec w)) (v : BitVec w) : Option (BitVec w) :=
  match seen with
  | none => some v
  | some u => some (if u.toNat < v.toNat then v else u)

end Sys2Proof.Machine
end

