-- ==== Sys2Proof/Machine/CellArray.lean ====
section
/-! DEFINITION. The cell array: bytes in canonical form, programs and erases of lines and sectors (R48 to R52), the fields of a
sector header (R53, R54), and images as lines (R61). The byte places of the header and image fields are the model's: the data
sheet describes the fields and gives no layout (log entries 1 and 9). -/

namespace Sys2Proof.Machine

/-! ### Bytes in canonical form -/

/-- What a byte that is not listed reads as: erased (section 3.1). -/
def erasedByte : Byte := 0xFF

/-- The byte at an address. -/
def Memory.read (m : Memory) (a : Nat) : Byte :=
  match m with
  | [] => erasedByte
  | (k, v) :: rest => if k = a then v else Memory.read rest a

/-- Write a byte; writing the erased value removes the entry, so that equal memories are equal lists. -/
def Memory.write (m : Memory) (a : Nat) (v : Byte) : Memory :=
  match m with
  | [] => if v = erasedByte then [] else [(a, v)]
  | (k, u) :: rest =>
    if a < k then (if v = erasedByte then (k, u) :: rest else (a, v) :: (k, u) :: rest)
    else if a = k then (if v = erasedByte then rest else (a, v) :: rest)
    else (k, u) :: Memory.write rest a v

/-- Erase the addresses from low up to, not including, high. -/
def Memory.erase (m : Memory) (low high : Nat) : Memory :=
  m.filter (fun c => decide (c.1 < low) || decide (high ≤ c.1))

/-- Every address from low up to, not including, high reads erased. -/
def Memory.erasedFrom (m : Memory) (low high : Nat) : Bool :=
  m.all (fun c => decide (c.1 < low) || decide (high ≤ c.1) || decide (c.2 = erasedByte))

/-- Addresses rise strictly from at least `low`, and no entry holds the erased value. -/
def Memory.wfFrom (low : Nat) : Memory → Bool
  | [] => true
  | (k, v) :: rest => decide (low ≤ k) && decide (v ≠ erasedByte) && Memory.wfFrom (k + 1) rest

/-- The canonical form holds. -/
def Memory.wf (m : Memory) : Bool :=
  Memory.wfFrom 0 m

/-! ### Lines and sectors -/

/-- The address of the first byte of a line: 4096 bytes a sector, 16 bytes a line (section 3.1). -/
def lineAddress (loc : Loc) : Nat :=
  loc.sector.val * 4096 + loc.line * 16

/-- The content of an image line. -/
def CellArray.readLine (a : CellArray) (loc : Loc) : Line :=
  lineOfBytes ((List.range 16).map (fun i => a.cells.read (lineAddress loc + i)))

/-- Set the content of an image line. -/
def CellArray.writeLine (a : CellArray) (loc : Loc) (content : Line) : CellArray :=
  { a with cells := (List.range 16).foldl (fun m i => m.write (lineAddress loc + i) (lineByte content i)) a.cells }

/-- Set the content of a sector's header line. -/
def CellArray.writeHeader (a : CellArray) (x : Sector) (content : HeaderLine) : CellArray :=
  { a with headers := a.headers.set x content }

/-- Erase a whole sector, its header line included (R48). -/
def CellArray.eraseSector (a : CellArray) (x : Sector) : CellArray where
  headers := a.headers.set x (BitVec.allOnes 176)
  cells := a.cells.erase (x.val * 4096) (x.val * 4096 + 4096)

/-- Give a whole sector the content an erase has left in it (R50, R52); lines that are not image lines of the sector are ignored. -/
def CellArray.writeSector (a : CellArray) (x : Sector) (content : SectorContent) : CellArray :=
  content.lines.foldl
    (fun b nl => if 1 ≤ nl.1 ∧ nl.1 ≤ 255 then b.writeLine ⟨x, nl.1⟩ nl.2 else b)
    ((a.eraseSector x).writeHeader x content.header)

/-- Every bit of the sector reads 1 (R50). -/
def CellArray.sectorErased (a : CellArray) (x : Sector) : Bool :=
  decide (a.headers[x] = BitVec.allOnes 176) && a.cells.erasedFrom (x.val * 4096) (x.val * 4096 + 4096)

/-- What a line with content `old` holds after a program that read back so: a programmed bit stays 0 (R48). -/
def contentAfter {w : Nat} (r : LineReadback) (old expected : BitVec w) : BitVec w :=
  match r with
  | .asExpected => expected
  | .reads bits => old &&& bits.setWidth w

/-- What a line program cut off by a reset leaves: each bit it would have cleared is 0 or still 1, every other bit keeps its
value (R52). -/
def tornLine {w : Nat} (old expected torn : BitVec w) : BitVec w :=
  old &&& (expected ||| torn)

/-! ### The fields of a sector header (R53, R54) -/

/-- How a header field reads (R54). -/
inductive Reading (α : Type) where
  | valid (value : α)
  | absent
  | torn
  deriving DecidableEq, Repr

/-- The check of a prepared block over its three fields (R53). Model's choice: the check runs over the bytes of each 32-bit field with the most
significant byte first (log entry 1). -/
def preparedCheck (identity epoch eraseCount : Word32) : BitVec 16 :=
  crc16 (be32 identity ++ be32 epoch ++ be32 eraseCount)

/-- The pattern of a prepared block; the other fields' bytes are left as 1. -/
def preparedPattern (epoch eraseCount : Word32) : HeaderLine :=
  Config.identityPattern ++ epoch ++ eraseCount ++ preparedCheck Config.identityPattern epoch eraseCount ++ BitVec.allOnes 64

/-- The pattern of an open sequence; its check runs over the value's bytes with the most significant first (the model's choice, log entry 1). -/
def openSequencePattern (value : Word32) : HeaderLine :=
  BitVec.allOnes 112 ++ value ++ crc16 (be32 value) ++ BitVec.allOnes 16

/-- The pattern of a FULL mark. -/
def fullPattern : HeaderLine :=
  BitVec.allOnes 160 ++ (0 : Byte) ++ BitVec.allOnes 8

/-- The pattern of a VICTIM mark. -/
def victimPattern : HeaderLine :=
  BitVec.allOnes 168 ++ (0 : Byte)

/-- The retired header: all zeros (R64). -/
def retiredPattern : HeaderLine := 0

/-- The epoch and erase count of the prepared block (R54). -/
def readPrepared (h : HeaderLine) : Reading (Word32 × Word32) :=
  let identity : Word32 := h.extractLsb' 144 32
  let epoch : Word32 := h.extractLsb' 112 32
  let count : Word32 := h.extractLsb' 80 32
  let check : BitVec 16 := h.extractLsb' 64 16
  if h.extractLsb' 64 112 = BitVec.allOnes 112 then .absent
  else if identity = Config.identityPattern ∧ check = preparedCheck identity epoch count then .valid (epoch, count)
  else .torn

/-- The open sequence (R54). -/
def readOpenSequence (h : HeaderLine) : Reading Word32 :=
  let value : Word32 := h.extractLsb' 32 32
  let check : BitVec 16 := h.extractLsb' 16 16
  if h.extractLsb' 16 48 = BitVec.allOnes 48 then .absent
  else if check = crc16 (be32 value) then .valid value
  else .torn

/-- The FULL mark is set: any of its bits is 0 (R54). -/
def fullMarkSet (h : HeaderLine) : Bool :=
  decide (h.extractLsb' 8 8 ≠ (0xFF : Byte))

/-- The VICTIM mark is set (R54). -/
def victimMarkSet (h : HeaderLine) : Bool :=
  decide (h.extractLsb' 0 8 ≠ (0xFF : Byte))

/-! ### Images as lines (R61) -/

/-- The fields of an image's header line. -/
structure ImageHeader where
  kind : ImageKind
  tagging : Tagging
  key : Key
  length : Nat
  generation : Gen
  payloadCheck : BitVec 16
  deriving DecidableEq, Repr

/-- Lines of the image a header declares. -/
def ImageHeader.lines (h : ImageHeader) : Nat :=
  linesOf h.kind h.length

/-- Lines of an image. -/
def Image.lines (i : Image) : Nat :=
  linesOf i.kind i.value.length

/-- The code of a kind in a header line. -/
def ImageKind.code : ImageKind → Byte
  | .value => 1
  | .tombstone => 2
  | .mark => 3

/-- The code of a tagging in a header line. -/
def Tagging.code : Tagging → Byte
  | .solo => 0
  | .tagged => 1

/-- The key field of a header line; a MARK has no key (R61). -/
def Image.keyField (i : Image) : Key :=
  match i.kind with
  | .mark => 0xFFFF
  | _ => i.key

/-- The fields of a header line that its header check covers. -/
def Image.headerFields (i : Image) : List Byte :=
  [i.kind.code, i.tagging.code] ++ be16 i.keyField ++ be16Nat i.value.length ++ be32 i.generation ++ be16 (crc16 i.value)

/-- The header line of an image. -/
def Image.headerLine (i : Image) : Line :=
  lineOfBytes (i.headerFields ++ be16 (crc16 i.headerFields))

/-- Line n of an image: its header line, then the value bytes in order, 16 to a line. -/
def Image.line (i : Image) (n : Nat) : Line :=
  match n with
  | 0 => i.headerLine
  | k + 1 => lineOfBytes ((i.value.drop (16 * k)).take 16)

/-- How the header line of an image reads. -/
inductive HeaderReading where
  | unwritten
  | invalid
  | image (header : ImageHeader)
  deriving DecidableEq, Repr

/-- The kind of a code. -/
def imageKindOf (b : Byte) : Option ImageKind :=
  if b = 1 then some .value else if b = 2 then some .tombstone else if b = 3 then some .mark else none

/-- The tagging of a code. -/
def taggingOf (b : Byte) : Option Tagging :=
  if b = 0 then some .solo else if b = 1 then some .tagged else none

/-- The conditions of R116 on the fields of a header at line c, its check apart. -/
def ImageHeader.fieldsValid (h : ImageHeader) (c : Nat) : Bool :=
  (match h.kind with
    | .value => decide (h.key ≠ 0x0000 ∧ h.key ≠ 0xFFFF ∧ h.length ≤ 256)
    | .tombstone => decide (h.key ≠ 0x0000 ∧ h.key ≠ 0xFFFF ∧ h.length = 0)
    | .mark => decide (h.length = 0 ∧ h.tagging = .solo))
  && decide (h.generation ≠ 0 ∧ h.generation ≠ 0xFFFFFFFF) && decide (c + h.lines ≤ 256)

/-- The header line at line c as R116 judges it. Model's choice: a header whose check agrees but whose tagging byte is neither the SOLO nor the
TAGGED code, a case R116 does not list, is not valid (log entry 9). -/
def readImageHeader (l : Line) (c : Nat) : HeaderReading :=
  if l = BitVec.allOnes 128 then .unwritten
  else
    let check := word16 (lineByte l 12) (lineByte l 13)
    if check ≠ crc16 ((List.range 12).map (lineByte l)) then .invalid
    else
      match imageKindOf (lineByte l 0), taggingOf (lineByte l 1) with
      | some kind, some tagging =>
        let h : ImageHeader :=
          { kind := kind
            tagging := tagging
            key := word16 (lineByte l 2) (lineByte l 3)
            length := (word16 (lineByte l 4) (lineByte l 5)).toNat
            generation := word32 (lineByte l 6) (lineByte l 7) (lineByte l 8) (lineByte l 9)
            payloadCheck := word16 (lineByte l 10) (lineByte l 11) }
        if h.fieldsValid c then .image h else .invalid
      | _, _ => .invalid

/-- The value bytes of an image of a given length whose header line lies at `loc`. -/
def CellArray.readValue (a : CellArray) (loc : Loc) (length : Nat) : List Byte :=
  (List.range length).map (fun i => a.cells.read (lineAddress loc + 16 + i))

/-- The payload lines of an image, if it has any, agree with its payload check (R116). -/
def CellArray.payloadAgrees (a : CellArray) (loc : Loc) (h : ImageHeader) : Bool :=
  decide (h.length = 0) || decide (crc16 (a.readValue loc h.length) = h.payloadCheck)

end Sys2Proof.Machine
end

