-- ==== Sys2Proof/Machine/Ops.lean ====
section
/-! DEFINITION. The named operations over links, sector records, directory, mark table, contexts, holds, pool and array
operations, on which the meanings are built. Each is one of the data sheet's own events. -/

namespace Sys2Proof.Machine

/-! ### Frames and notices (R152, R163, R185) -/

/-- Size of a frame on a link: LENGTH + 7 bytes (R152). -/
def Frame.size (f : Frame) : Nat :=
  f.payload.length + 7

/-- The bytes a frame's CHECK covers: LENGTH, TAG, TYPE and payload (R152). -/
def Frame.checked (f : Frame) : List Byte :=
  be16Nat f.payload.length ++ [f.tag, f.typ] ++ f.payload

/-- The bytes of a frame in the order they are sent (section 10.9). -/
def Frame.bytes (f : Frame) : List Byte :=
  [Config.sync] ++ f.checked ++ be16 (crc16 f.checked)

/-- A frame is a notice when its TYPE is below 0x80: replies have TYPE 0x80 or above (R152, R168). -/
def Frame.isNotice (f : Frame) : Bool :=
  !f.typ.msb

/-- A frame is a JOB_DONE notice. -/
def Frame.isJobDone (f : Frame) : Bool :=
  decide (f.typ = 0x61)

/-- Store state codes (R182). -/
def Store.code : Store → Byte
  | .mounting => 0
  | .blank => 1
  | .ready => 2
  | .readOnly _ => 3
  | .formatting => 4

/-- Cause codes (R182). -/
def Cause.code : Cause → Byte
  | .media => 1
  | .capacity => 2
  | .noProgress => 3
  | .directory => 4
  | .generation => 5

/-- The cause as reported: none unless the state is READ_ONLY (R19). -/
def Store.causeCode : Store → Byte
  | .readOnly c => c.code
  | _ => 0

/-- Supply codes (R182). -/
def supplyCode : Supply → Byte
  | .normal => 0
  | .low => 1

/-- Job kind codes (R182). -/
def JobKind.code : JobKind → Byte
  | .commit => 1
  | .soloWrite => 2
  | .soloDelete => 3
  | .zoneUpdate => 4
  | .reclaimReq => 5
  | .format => 6

/-- Job result codes (R181). -/
def JobResult.code : JobResult → Byte
  | .ok => 0x00
  | .mediaFail => 0x70
  | .storeReadOnly => 0x71
  | .noSpace => 0x72

/-- The handle number of a context. -/
def handleCode (h : Handle) : Byte :=
  byteOf (h.val + 1)

/-- The TYPE of a notice (R185). -/
def Notice.typ : Notice → Byte
  | .mounted .. => 0x60
  | .jobDone .. => 0x61
  | .keyChanged .. => 0x62
  | .txnExpired .. => 0x63
  | .supply .. => 0x64
  | .storeState .. => 0x65

/-- The fields of a notice after its lost count (R185). -/
def Notice.fields : Notice → List Byte
  | .mounted store keys next retired epoch =>
    [store.code, store.causeCode] ++ be16Nat keys ++ be32 next ++ [byteOf retired] ++ be32 epoch
  | .jobDone ticket kind result generation => be16 ticket ++ [kind.code, result.code] ++ be32 generation
  | .keyChanged key generation deleted => be16 key ++ be32 generation ++ [byteOfBool deleted]
  | .txnExpired handle => [handleCode handle]
  | .supply s => [supplyCode s]
  | .storeState store => [store.code, store.causeCode]

/-- A notice is a JOB_DONE. -/
def Notice.isJobDone : Notice → Bool
  | .jobDone .. => true
  | _ => false

/-- The mask admits the kind of a notice; JOB_DONE has no setting (R182, R188). -/
def Notice.enabled (n : Notice) (mask : BitVec 5) : Bool :=
  match n with
  | .mounted .. => mask.getLsbD 0
  | .keyChanged .. => mask.getLsbD 1
  | .txnExpired .. => mask.getLsbD 2
  | .supply .. => mask.getLsbD 3
  | .storeState .. => mask.getLsbD 4
  | .jobDone .. => true

/-- Free unreserved slots of a link (R151). -/
def Framer.freeSlots (f : Framer) : Nat :=
  Config.outboundSlots - f.out.length - f.reservations

/-- The frame of a notice as it enters a slot: the notice sequence as TAG, the lost count first in its payload (R163). -/
def Framer.noticeFrame (f : Framer) (n : Notice) : Frame where
  tag := f.sequence
  typ := n.typ
  payload := f.lost :: n.fields

/-- A notice enters a slot: the sequence advances and the lost count is cleared (R163). -/
def Framer.enter (f : Framer) (n : Notice) : Framer :=
  { f with out := f.out ++ [f.noticeFrame n], sequence := f.sequence + 1, lost := 0 }

/-- A notice is lost for want of a slot (R163). -/
def Framer.lose (f : Framer) : Framer :=
  { f with lost := saturatingSucc f.lost, lostNotices := saturatingSucc f.lostNotices }

/-- Offer a notice to a link: the steps of R163. -/
def Framer.offer (f : Framer) (n : Notice) : Framer :=
  if n.enabled f.mask then
    if n.isJobDone then
      if f.backlog.isEmpty && decide (0 < f.freeSlots) then f.enter n else { f with backlog := f.backlog ++ [n] }
    else if 0 < f.freeSlots then f.enter n else f.lose
  else f

/-- The backlog takes freed slots, its head first (R163). -/
def Framer.takeFrom (f : Framer) : List Notice → Framer
  | [] => { f with backlog := [] }
  | n :: rest => if 0 < f.freeSlots then (f.enter n).takeFrom rest else { f with backlog := n :: rest }

/-- The backlog takes the slots that are free. -/
def Framer.drainBacklog (f : Framer) : Framer :=
  f.takeFrom f.backlog

/-! ### The two links -/

/-- The framer of a link. -/
def State.link (s : State) : Link → Framer
  | .link0 => s.lf0
  | .link1 => s.lf1

/-- Give a link a framer state. ATTN follows LF0's outbound queue: asserted while it holds a frame, since the head frame leaves
its slot when its last byte is complete (R156). -/
def State.setLink (s : State) (l : Link) (f : Framer) : State :=
  match l with
  | .link0 => { s with lf0 := f, attn := !f.out.isEmpty }
  | .link1 => { s with lf1 := f }

/-- Offer a notice to one link. -/
def State.offer (s : State) (l : Link) (n : Notice) : State :=
  s.setLink l ((s.link l).offer n)

/-- Offer a notice to both links, a copy to each (R186). -/
def State.offerBoth (s : State) (n : Notice) : State :=
  (s.offer .link0 n).offer .link1 n

/-- The other link. -/
def otherLink : Link → Link
  | .link0 => .link1
  | .link1 => .link0

/-! ### Sector records and line classes (R13, R14) -/

/-- Change a sector's record. -/
def State.modSector (s : State) (x : Sector) (f : SectorRecord → SectorRecord) : State :=
  { s with sectors := s.sectors.set x (f s.sectors[x]) }

/-- Lines of a sector move from pending to live. -/
def State.pendingToLive (s : State) (x : Sector) (k : Nat) : State :=
  s.modSector x (fun r => { r with pending := r.pending - k, live := r.live + k })

/-- Lines of a sector move from pending to stale. -/
def State.pendingToStale (s : State) (x : Sector) (k : Nat) : State :=
  s.modSector x (fun r => { r with pending := r.pending - k, stale := r.stale + k })

/-- Lines of a sector move from live to stale. -/
def State.liveToStale (s : State) (x : Sector) (k : Nat) : State :=
  s.modSector x (fun r => { r with live := r.live - k, stale := r.stale + k })

/-- The open sequence of a record, where it is present (R55). -/
def SectorState.openSequence : SectorState → Option Word32
  | .opened v _ => some v
  | .full v => some v
  | .victim v => some v
  | _ => none

/-- The sector is FULL. -/
def SectorState.isFull : SectorState → Bool
  | .full _ => true
  | _ => false

/-- The sector is ERASED. -/
def SectorState.isErased : SectorState → Bool
  | .erased => true
  | _ => false

/-- The OPEN sector, if there is one, with its open sequence and cursor. -/
def State.openSector (s : State) : Option (Sector × Word32 × Nat) :=
  allSectors.findSome? (fun x => match s.sectors[x].state with
    | .opened v c => some (x, v, c)
    | _ => none)

/-- The FULL mark of a sector has completed, with PASS or FAIL: the sector is FULL and its unwritten lines are stale (R14, R56). -/
def State.markFull (s : State) (x : Sector) : State :=
  s.modSector x (fun r => match r.state with
    | .opened v _ => { r with state := .full v, stale := 255 - r.live - r.pending }
    | _ => r)

/-! ### Directory and mark table (R7, R10 to R12, R83) -/

/-- A lookup (R7): the entry of a key, if it has one. -/
def State.lookup (s : State) (k : Key) : Option DirEntry :=
  s.directory.find? (fun e => e.key == k)

/-- Insert an entry in key order, or replace the entry of its key (R10). -/
def insertEntry (e : DirEntry) : List DirEntry → List DirEntry
  | [] => [e]
  | d :: rest =>
    if e.key.toNat < d.key.toNat then e :: d :: rest
    else if e.key = d.key then e :: rest
    else d :: insertEntry e rest

/-- Lines of the image an entry points at (R2). -/
def DirEntry.lines (e : DirEntry) : Nat :=
  match e.state with
  | .live => valueLines e.length
  | .deleted => 1

/-- The mark entry of a generation loses one dependent; brought to 0 it is removed and its MARK line becomes stale (R83). -/
def State.loseDependent (s : State) (g : Gen) : State :=
  match s.marks.find? (fun m => m.generation == g) with
  | none => s
  | some m =>
    if m.dependents ≤ 1 then
      ({ s with marks := s.marks.filter (fun n => !(n.generation == g)) }).liveToStale m.loc.sector 1
    else
      { s with marks := s.marks.map (fun n => if n.generation == g then { n with dependents := n.dependents - 1 } else n) }

/-- The effect on the mark table of an entry that stops pointing at an image: a TAGGED image was a dependent (R83). -/
def State.released (s : State) (e : DirEntry) : State :=
  match e.tagging with
  | .tagged => s.loseDependent e.generation
  | .solo => s

/-- A repoint of a key from its source to a SOLO copy (R11). -/
def State.repoint (s : State) (k : Key) (source copy : Loc) (lines : Nat) : State :=
  match s.lookup k with
  | some e =>
    if e.loc = source then
      let moved := { s with directory := insertEntry { e with loc := copy, tagging := .solo } s.directory }
      ((moved.pendingToLive copy.sector lines).liveToStale source.sector lines).released e
    else s.pendingToStale copy.sector lines
  | none => s.pendingToStale copy.sector lines

/-- A key has a holder (R32). -/
def State.holder (s : State) (k : Key) : Option Holder :=
  (s.holds.find? (fun h => h.1 == k)).map (·.2)

/-- A drop of a DELETED entry at a location; none where it is refused (R12). -/
def State.drop (s : State) (k : Key) (loc : Loc) : Option State :=
  match s.lookup k with
  | some e =>
    if e.state = .deleted ∧ e.loc = loc ∧ s.holder k = none then
      some ((({ s with directory := s.directory.filter (fun d => !(d.key == k)) }).liveToStale loc.sector 1).released e)
    else none
  | none => none

/-- A MARK copy has completed: if an entry is still located at the source it is relocated, and otherwise the copy's line is
stale (R104). -/
def State.relocateMark (s : State) (source copy : Loc) : State :=
  if s.marks.any (fun m => decide (m.loc = source)) then
    let moved := { s with marks := s.marks.map (fun (m : MarkEntry) => if m.loc = source then { m with loc := copy } else m) }
    (moved.pendingToLive copy.sector 1).liveToStale source.sector 1
  else s.pendingToStale copy.sector 1

/-! ### Holds, pool and contexts (R32, R34, R37) -/

/-- Take a hold on a key. -/
def State.takeHold (s : State) (k : Key) (h : Holder) : State :=
  { s with holds := s.holds.filter (fun p => !(p.1 == k)) ++ [(k, h)] }

/-- Release one key. -/
def State.releaseKey (s : State) (k : Key) : State :=
  { s with holds := s.holds.filter (fun p => !(p.1 == k)) }

/-- Release every key of a holder. -/
def State.releaseHolder (s : State) (h : Holder) : State :=
  { s with holds := s.holds.filter (fun p => !(p.2 == h)) }

/-- Pool units of a change (R26). -/
def Change.units : Change → Nat
  | .value bytes => unitsOf bytes.length
  | .delete => 0

/-- Pool units of a staged list. -/
def stagedUnits (entries : List Staged) : Nat :=
  (entries.map (fun e => e.change.units)).sum

/-- The staged list of a context. -/
def Context.staged : Context → List Staged
  | .free => []
  | .opened _ _ _ l => l
  | .committing _ _ l _ => l

/-- The owner of a context. -/
def Context.owner : Context → Option Link
  | .free => none
  | .opened o _ _ _ => some o
  | .committing o _ _ _ => some o

/-- The context of a handle. -/
def State.context (s : State) (h : Handle) : Context :=
  s.contexts[h]

/-- Give a handle a context. -/
def State.setContext (s : State) (h : Handle) (c : Context) : State :=
  { s with contexts := s.contexts.set h c }

/-- A context becomes FREE: its holds are released, its units returned, its list emptied (R37, R39, R44). -/
def State.freeContext (s : State) (h : Handle) : State :=
  (({ s with poolFree := s.poolFree + stagedUnits (s.context h).staged }).releaseHolder (.context h)).setContext h .free

/-- The context is OPEN and owned by a link. -/
def Context.openFor (c : Context) (l : Link) : Bool :=
  match c with
  | .opened o _ _ _ => decide (o = l)
  | _ => false

/-- The idle timer of an OPEN context restarts from 0 when its owner's request names it (R38). -/
def State.restartTimer (s : State) (l : Link) (h : Handle) : State :=
  match s.context h with
  | .opened o t _ entries => if o = l then s.setContext h (.opened o t 0 entries) else s
  | _ => s

/-- The idle timer of an OPEN context has reached its timeout (R39). -/
def Context.due : Context → Bool
  | .opened _ t idle _ => decide (t ≤ idle)
  | _ => false

/-- One millisecond of a running idle timer (R38). -/
def Context.tick : Context → Context
  | .opened o t idle entries => .opened o t (idle + 1) entries
  | c => c

/-! ### Jobs (R66 to R69) -/

/-- The kind of a job. -/
def Work.kind : Work → JobKind
  | .commit _ => .commit
  | .soloWrite _ _ => .soloWrite
  | .soloDelete _ => .soloDelete
  | .zoneUpdate _ => .zoneUpdate
  | .reclaimReq => .reclaimReq
  | .format => .format

/-- The job is a FORMAT. -/
def Job.isFormat (j : Job) : Bool :=
  decide (j.work.kind = .format)

/-- The job is a ZONE_UPDATE. -/
def Job.isZoneUpdate (j : Job) : Bool :=
  decide (j.work.kind = .zoneUpdate)

/-- No place is free in the job queue: 8 jobs, or a FORMAT, which fills every place (R66). -/
def State.queueFull (s : State) : Bool :=
  decide (Config.queuePlaces ≤ s.queue.length) || s.queue.any Job.isFormat

/-- The ticket after a ticket: from 65535 it goes to 1 (R68). -/
def ticketAfter (t : Ticket) : Ticket :=
  if t = 0xFFFF then 1 else t + 1

/-- The acceptance of a job (R69), less what its kind alone does: the ticket, the reservation and the queue. -/
def State.acceptJob (s : State) (work : Work) (origin : Link) (lines slots : Nat) : State :=
  { s with
    queue := s.queue ++ [⟨s.nextTicket, work, origin, lines, slots⟩]
    nextTicket := ticketAfter s.nextTicket
    reservedLines := s.reservedLines + lines
    slotReservations := s.slotReservations + slots }

/-- What a job gives back when it ends, with any result: its reservation, and its context, or its hold and units (R16, R32, R34,
R44). -/
def State.releaseJob (s : State) (j : Job) : State :=
  let t := { s with reservedLines := s.reservedLines - j.lines, slotReservations := s.slotReservations - j.slots }
  match j.work with
  | .commit h => t.freeContext h
  | .soloWrite _ value => ({ t with poolFree := t.poolFree + unitsOf value.length }).releaseHolder (.job j.ticket)
  | .soloDelete _ => t.releaseHolder (.job j.ticket)
  | _ => t

/-- JOB_DONE is offered to a job's origin link (R90). -/
def State.offerDone (s : State) (j : Job) (result : JobResult) (generation : Gen) : State :=
  s.offer j.origin (.jobDone j.ticket j.work.kind result generation)

/-- Store the commands that wait. -/
def State.withPending (s : State) (cs : List Instr) : State :=
  { s with pending := cs }

/-! ### Array operations (R49, R50) -/

/-- Ask the sector manager for an array operation; it starts when the one before it has completed. -/
def State.request (s : State) (op : ArrayOp) : State :=
  { s with ops := s.ops ++ [op] }

/-- Ask for the program of a header field. -/
def State.requestHeader (s : State) (x : Sector) (field : HeaderField) (pattern : HeaderLine) : State :=
  s.request (.header x field pattern (s.array.headers[x] &&& pattern))

/-- Ask for the program of line n of an image. -/
def State.requestLine (s : State) (w : Writer) (start : Loc) (i : Image) (n : Nat) : State :=
  let pattern := i.line n
  s.request (.image w start n pattern (s.array.readLine ⟨start.sector, start.line + n⟩ &&& pattern))

end Sys2Proof.Machine
end

