-- ==== Sys2Proof/Machine/Flags.lean ====
section
/-! DEFINITION. The computed figures and conditions of the part: the space figures of R13, capacity, the reserve sector, the
choices of sectors to open and of victims, and the checks that read them. -/

namespace Sys2Proof.Machine

/-! ### Space figures (R13) -/

/-- The sum of a figure over the sector table. -/
def State.sumSectors (s : State) (f : SectorRecord → Nat) : Nat :=
  (s.sectors.toList.map f).sum

/-- Live lines. -/
def State.liveLines (s : State) : Nat :=
  s.sumSectors (·.live)

/-- Stale lines. -/
def State.staleLines (s : State) : Nat :=
  s.sumSectors (·.stale)

/-- Unwritten lines of an OPEN or ERASED sector; 0 of any other (R22). -/
def SectorRecord.free (r : SectorRecord) : Nat :=
  match r.state with
  | .erased => 255
  | .opened _ _ => 255 - r.live - r.pending - r.stale
  | _ => 0

/-- Free lines. -/
def State.freeLines (s : State) : Nat :=
  s.sumSectors SectorRecord.free

/-- The sector is not RETIRED. Sectors awaiting the sweep and UNPREPARED ones count as non-retired (R115, R122). -/
def SectorRecord.nonRetired (r : SectorRecord) : Bool :=
  match r.state with
  | .retired => false
  | _ => true

/-- The number of non-retired sectors. -/
def State.nonRetiredCount (s : State) : Nat :=
  s.sectors.toList.countP SectorRecord.nonRetired

/-- Mount has not yet established the figures: its resolve phase has not ended (R13, R22). -/
def State.unresolved (s : State) : Bool :=
  match s.mount with
  | none => false
  | some m => match m.phase with
    | .sweep | .finish => false
    | .headerScan | .imageScan | .resolve => true

/-- (non-retired sectors − 2) × 255 (R13); a free value where that is negative (log entry 4). -/
def capacityOf (nonRetired : Nat) : Nat :=
  if nonRetired < 2 then (Config.liveCapacityBelowTwo nonRetired).toNat else (nonRetired - 2) * 255

/-- Live capacity, 0 before mount's resolve phase ends (R13). -/
def State.liveCapacity (s : State) : Nat :=
  if s.unresolved then 0 else capacityOf s.nonRetiredCount

/-- The space check of R15 refuses n gross new lines. -/
def State.lacksLines (s : State) (n : Nat) : Bool :=
  decide (s.liveCapacity < s.liveLines + s.reservedLines + n)

/-- The slot check of R15 refuses s new slots. -/
def State.lacksSlots (s : State) (n : Nat) : Bool :=
  decide (Config.directoryCapacity < s.directory.length + s.slotReservations + n)

/-- The condition of R17: fewer than 4 non-retired sectors, or more live and reserved lines than live capacity. -/
def State.capacityFails (s : State) : Bool :=
  decide (s.nonRetiredCount < 4) || decide (s.liveCapacity < s.liveLines + s.reservedLines)

/-- The number of LIVE directory entries (R129). -/
def State.liveKeyCount (s : State) : Nat :=
  s.directory.countP (fun e => e.state == .live)

/-- The number of RETIRED sectors (R129). -/
def State.retiredCount (s : State) : Nat :=
  s.sectors.toList.countP (fun r => !r.nonRetired)

/-! ### Opening and the reserve (R60) -/

/-- The ERASED sectors, ascending. -/
def State.erasedSectors (s : State) : List Sector :=
  allSectors.filter (fun x => s.sectors[x].state.isErased)

/-- Some sector is ERASED. -/
def State.hasErased (s : State) : Bool :=
  !s.erasedSectors.isEmpty

/-- The reserve sector: of the ERASED sectors the one with the highest erase count, ties to the highest index; a single ERASED
sector is the reserve (R60). -/
def State.reserveSector (s : State) : Option Sector :=
  selectBy (fun b best => decide (s.sectors[best].eraseCount.toNat ≤ s.sectors[b].eraseCount.toNat)) s.erasedSectors

/-- The sectors an open request may open: every ERASED sector but the reserve; the reserve where it is the only one and the
request allows it (R60). -/
def State.openCandidates (s : State) (allowReserve : Bool) : List Sector :=
  match s.erasedSectors with
  | [] => []
  | [x] => if allowReserve then [x] else []
  | xs => xs.filter (fun x => !(some x == s.reserveSector))

/-- The sector an open request opens: the lowest erase count, ties to the lowest index (R60). -/
def State.chooseOpen (s : State) (allowReserve : Bool) : Option Sector :=
  selectBy (fun b best => decide (s.sectors[b].eraseCount.toNat < s.sectors[best].eraseCount.toNat)) (s.openCandidates allowReserve)

/-- The open-sequence counter after a value is given (R59; log entry 3). -/
def openSequenceAfter (v : Word32) : Word32 :=
  if v = 0xFFFFFFFF then Config.openSequencePastLimit else v + 1

/-! ### Victims (R94 to R96) -/

/-- Eligible victims: FULL, with no pending line (R94). -/
def State.eligible (s : State) : List Sector :=
  allSectors.filter (fun x => s.sectors[x].state.isFull && decide (s.sectors[x].pending = 0))

/-- The preference of the stale choice: more stale lines, then the lower erase count; the lower index comes first (R94). -/
def State.staler (s : State) (b best : Sector) : Bool :=
  decide (s.sectors[best].stale < s.sectors[b].stale)
    || (decide (s.sectors[best].stale = s.sectors[b].stale)
      && decide (s.sectors[b].eraseCount.toNat < s.sectors[best].eraseCount.toNat))

/-- The stale choice among eligible sectors with at least `least` stale lines (R94, R97). -/
def State.staleChoice (s : State) (least : Nat) : Option Sector :=
  selectBy s.staler (s.eligible.filter (fun x => decide (least ≤ s.sectors[x].stale)))

/-- The preference of the wear choice: the lower erase count, then more stale lines; the lower index comes first (R95). -/
def State.lessWorn (s : State) (b best : Sector) : Bool :=
  decide (s.sectors[b].eraseCount.toNat < s.sectors[best].eraseCount.toNat)
    || (decide (s.sectors[best].eraseCount = s.sectors[b].eraseCount)
      && decide (s.sectors[best].stale < s.sectors[b].stale))

/-- The wear choice (R95). -/
def State.wearChoice (s : State) : Option Sector :=
  selectBy s.lessWorn s.eligible

/-- The erase counts of the non-retired sectors. -/
def State.wearCounts (s : State) : List Nat :=
  (s.sectors.toList.filter SectorRecord.nonRetired).map (·.eraseCount.toNat)

/-- The lowest erase count of the non-retired sectors, if there is one. -/
def State.lowestWear (s : State) : Option Nat :=
  selectBy (fun b best => decide (b < best)) s.wearCounts

/-- The erase-count spread over the non-retired sectors (R95). -/
def State.wearSpread (s : State) : Nat :=
  match s.lowestWear, selectBy (fun b best => decide (best < b)) s.wearCounts with
  | some low, some high => high - low
  | _, _ => 0

/-- The space condition of R96. -/
def State.spaceTrigger (s : State) : Bool :=
  decide (s.erasedSectors.length ≤ 2) && s.eligible.any (fun x => decide (64 ≤ s.sectors[x].stale))

/-- The wear condition of R96. -/
def State.wearTrigger (s : State) : Bool :=
  decide (Config.wearSpread ≤ s.wearSpread) && s.eligible.any (fun x => some s.sectors[x].eraseCount.toNat == s.lowestWear)

/-- The engine is IDLE in NORMAL supply, the store READY and the queue empty: what a background pass needs to start or resume (R96,
R106). -/
def State.backgroundAllowed (s : State) : Bool :=
  decide (s.engine = .idle) && s.queue.isEmpty && decide (s.supply = .normal) && decide (s.store = .ready)

/-- The trigger of a background pass holds (R96). -/
def State.backgroundTrigger (s : State) : Bool :=
  s.backgroundAllowed && s.pass.isNone && (s.spaceTrigger || s.wearTrigger)

/-- The victim a background pass starts on (R95, R96). -/
def State.backgroundVictim (s : State) : Option Sector :=
  if Config.wearSpread ≤ s.wearSpread then s.wearChoice else s.staleChoice 0

/-- The sector has the lowest open sequence among the OPEN, FULL and VICTIM sectors (R101). -/
def State.isOldest (s : State) (x : Sector) : Bool :=
  match s.sectors[x].state.openSequence with
  | none => false
  | some v => allSectors.all (fun y => match s.sectors[y].state.openSequence with
    | none => true
    | some w => decide (v.toNat ≤ w.toNat))

/-! ### Work outstanding (R136, R180) -/

/-- A ZONE_UPDATE job is in progress. -/
def State.zoneUpdateRunning (s : State) : Bool :=
  match s.running with
  | some r => r.job.isZoneUpdate
  | none => false

/-- A ZONE_UPDATE job is queued or in progress (R136). -/
def State.zoneUpdateOutstanding (s : State) : Bool :=
  s.queue.any Job.isZoneUpdate || s.zoneUpdateRunning

/-- Every context is FREE. -/
def State.allContextsFree (s : State) : Bool :=
  s.contexts.toList.all (fun c => decide (c = .free))

/-- Some zone of the table in force is FROZEN (R139). -/
def State.anyZoneFrozen (s : State) : Bool :=
  s.zones.toList.any (fun z => match z with
    | some zone => zone.frozen
    | none => false)

end Sys2Proof.Machine
end

