-- ==== Sys2Proof/Machine/Jobs.lean ====
section
/-! DEFINITION. The store controller, the ends of jobs, the switch, retirement, and the end of mount: the events that several
activities of the engine come to (R4, R17, R18, R64, R76, R86 to R91, R129). -/

namespace Sys2Proof.Machine

/-! ### The store controller (R18 to R20) -/

/-- A condition of R19 arises: a READY store enters READ_ONLY with its cause and offers STORE_STATE to both links; in any other
state the state and cause stay and no notice is raised. -/
def State.enterReadOnly (s : State) (cause : Cause) : State :=
  if s.store = .ready then
    ({ s with store := .readOnly cause }).offerBoth (.storeState (.readOnly cause))
  else s

/-- Offer a STORE_STATE with the present state (R20). -/
def State.announceStore (s : State) (store : Store) : State :=
  ({ s with store := store }).offerBoth (.storeState store)

/-- A sector is retired (R64): the record becomes RETIRED and leaves every figure, capacity is re-evaluated (R17), and the retired
header is programmed. -/
def State.retire (s : State) (x : Sector) : State :=
  let t := s.modSector x (fun r => { r with state := .retired, live := 0, pending := 0, stale := 0 })
  let u := if t.capacityFails then t.enterReadOnly .capacity else t
  u.requestHeader x .retired retiredPattern

/-! ### Images of a job (R67, R73, R74, R77) -/

/-- The entry of a zone in the zone record: 8 bytes (R140; the places of the fields are the model's, log entry 11). -/
def zoneEntryBytes : Option Zone → List Byte
  | none => [0, 0, 0, 0, 0, 0, 0, 0]
  | some z =>
    [1] ++ be16 z.low ++ be16 z.high
      ++ [(if z.link0Write then 1 else 0) ||| (if z.link1Write then 2 else 0),
          (if z.guarded then 1 else 0) ||| (if z.frozen then 2 else 0), 0]

/-- The zone record: eight entries of 8 bytes in index order (R140). -/
def zoneRecord (table : ZoneTable) : List Byte :=
  table.toList.flatMap zoneEntryBytes

/-- The image of a staged entry (R73). -/
def Staged.image (e : Staged) (tagging : Tagging) (g : Gen) : Image :=
  match e.change with
  | .value bytes => ⟨.value, tagging, e.key, g, bytes⟩
  | .delete => ⟨.tombstone, tagging, e.key, g, []⟩

/-- The MARK of a generation (R61). -/
def markImage (g : Gen) : Image :=
  ⟨.mark, .solo, 0, g, []⟩

/-- The record images of a staged list: SOLO for one entry, TAGGED for more (R73). -/
def stagedImages (entries : List Staged) (g : Gen) : List Image :=
  entries.map (fun e => e.image (if 2 ≤ entries.length then .tagged else .solo) g)

/-- The record images a job writes, in order. -/
def State.recordImages (s : State) (work : Work) (g : Gen) : List Image :=
  match work with
  | .commit h => stagedImages (s.context h).staged g
  | .soloWrite k value => [⟨.value, .solo, k, g, value⟩]
  | .soloDelete k => [⟨.tombstone, .solo, k, g, []⟩]
  | .zoneUpdate table => [⟨.value, .solo, Config.zoneKey, g, zoneRecord table⟩]
  | .reclaimReq => []
  | .format => []

/-- The images a job writes: its record images, and after two or more of a commit a MARK (R73). -/
def State.jobImages (s : State) (work : Work) (g : Gen) : List Image :=
  let records := s.recordImages work g
  if 2 ≤ records.length then records ++ [markImage g] else records

/-! ### The end of a job (R16, R44, R86, R90) -/

/-- The generation limit of R4 was passed by the job that took this generation. -/
def passesLimit (g : Gen) : Bool :=
  decide (g ≠ 0) && decide (Config.generationLimit ≤ g.toNat + 1)

/-- When a job that took generation G ends, with any result: the store goes READ_ONLY once the counter has reached the limit
(R4). -/
def State.checkGeneration (s : State) (g : Gen) : State :=
  if passesLimit g then s.enterReadOnly .generation else s

/-- The images a job had programmed move from pending to stale when it ends without a switch (R14, R86). -/
def State.abandonPlaced (s : State) : List (Image × Loc) → State
  | [] => s
  | (i, loc) :: rest => (s.pendingToStale loc.sector i.lines).abandonPlaced rest

/-- The job in progress ends with a result other than through its switch, and the engine lets the array go: its images become
stale, what it held is given back, and JOB_DONE is offered (R86, R90). RECLAIM_REQ and FORMAT end so with OK too. -/
def State.endRunning (s : State) (r : Running) (result : JobResult) : State :=
  let dropped := s.abandonPlaced ((s.jobImages r.job.work r.generation).zip r.placed)
  let ended := { dropped.releaseJob r.job with running := none, engine := .idle }
  (ended.offerDone r.job result 0).checkGeneration r.generation

/-- Every queued job other than a FORMAT is ended with STORE_READ_ONLY, from the head (R89). -/
def State.endQueued (s : State) : List Job → State
  | [] => s
  | j :: rest =>
    if j.isFormat then s.endQueued rest
    else ((s.releaseJob j).offerDone j .storeReadOnly 0).endQueued rest

/-- In READ_ONLY no job other than a FORMAT stays queued (R89). -/
def State.flushQueue (s : State) : State :=
  match s.store with
  | .readOnly _ => { s.endQueued s.queue with queue := s.queue.filter Job.isFormat }
  | _ => s

/-- The array has been let go in LOW while the queue holds a job or a pass is suspended: the engine is PAUSED (R146). -/
def State.pauseIfHeld (s : State) : State :=
  if s.engine = .idle ∧ s.supply = .low ∧ (s.queue ≠ [] ∨ s.pass ≠ none) then { s with engine := .paused } else s

/-- What closes every event of the engine: queued jobs end when the store has gone READ_ONLY, after every other notice of the
event (R89, R189), and the engine rests in IDLE or PAUSED (R146). -/
def State.settle (s : State) : State :=
  s.flushQueue.pauseIfHeld

/-! ### The switch (R10, R76, R91) -/

/-- The directory takes one new image (R10): the superseded image becomes stale and its mark loses a dependent. -/
def State.switchOne (s : State) (i : Image) (loc : Loc) : State :=
  let entry : DirEntry :=
    { key := i.key
      state := match i.kind with
        | .value => .live
        | _ => .deleted
      loc := loc
      length := i.value.length
      generation := i.generation
      tagging := i.tagging }
  let taken := ({ s with directory := insertEntry entry s.directory }).pendingToLive loc.sector i.lines
  match s.lookup i.key with
  | none => taken
  | some old => (taken.liveToStale old.loc.sector old.lines).released old

/-- The directory takes all the record images of a job (R10). -/
def State.switchAll (s : State) : List (Image × Loc) → State
  | [] => s
  | (i, loc) :: rest => (s.switchOne i loc).switchAll rest

/-- The mark entry of a commit of two or more entries (R76, R83). -/
def State.addMark (s : State) (g : Gen) (loc : Loc) (dependents : Nat) : State :=
  ({ s with marks := s.marks ++ [MarkEntry.mk g loc dependents] }).pendingToLive loc.sector 1

/-- The MARK of a job, placed after its record images, enters the mark table. -/
def State.switchMark (s : State) (g : Gen) (records : Nat) (placed : List Loc) : State :=
  match placed[records]? with
  | some loc => s.addMark g loc records
  | none => s

/-- KEY_CHANGED is offered to a link for each changed key it watches, in the job's order (R91, R193). -/
def State.notifyChanged (s : State) (l : Link) (g : Gen) : List Image → State
  | [] => s
  | i :: rest =>
    if (s.link l).watches.contains i.key then
      (s.offer l (.keyChanged i.key g (decide (i.kind ≠ .value)))).notifyChanged l g rest
    else s.notifyChanged l g rest

/-- A ZONE_UPDATE's switch replaces the zone table in force (R77). -/
def State.switchZones (s : State) : Work → State
  | .zoneUpdate table => { s with zones := table }
  | _ => s

/-- The switch of the job in progress, in one event (R76): the directory, the mark table, the reservation, the holds, units and
context, the zone table, the end of the job with OK, and its notices in the order of R189. -/
def State.switch (s : State) (r : Running) : State :=
  let records := s.recordImages r.job.work r.generation
  let marked := (s.switchAll (records.zip r.placed)).switchMark r.generation records.length
    (if 2 ≤ records.length then r.placed else [])
  let ended := { (marked.switchZones r.job.work).releaseJob r.job with running := none, engine := .idle }
  let told := ended.offerDone r.job .ok r.generation
  ((told.notifyChanged .link0 r.generation records).notifyChanged .link1 r.generation records).checkGeneration r.generation

/-! ### The end of mount (R128, R129) -/

/-- Sectors classed VICTIM whose pass the sweep has not resumed become FULL in the sector table (R128). -/
def State.victimsToFull (s : State) : List Sector → State
  | [] => s
  | x :: rest =>
    (s.modSector x (fun r => match r.state with
      | .victim v => { r with state := .full v }
      | _ => r)).victimsToFull rest

/-- The store state that mount ends in: READ_ONLY with the cause mount met first, or by the capacity check (R129). -/
def State.mountedStore (s : State) (cause : Option Cause) : Store :=
  match cause with
  | some c => .readOnly c
  | none => if s.capacityFails then .readOnly .capacity else .ready

/-- The MOUNTED notice with its fields (R129). -/
def State.mountedNotice (s : State) : Notice :=
  .mounted s.store s.liveKeyCount s.generationNext s.retiredCount s.epoch

/-- Mount leaves MOUNTING for a store state: the engine is IDLE, the mount record is discarded and MOUNTED is offered (R129). -/
def State.leaveMounting (s : State) (store : Store) : State :=
  let t := { s with store := store, engine := .idle, mount := none }
  t.offerBoth t.mountedNotice

/-- END of mount, in one event (R129). -/
def State.mountEnd (s : State) (m : MountRecord) : State :=
  let t := s.victimsToFull m.victims
  t.leaveMounting (t.mountedStore m.cause)

/-- Mount meets a cause: the first one stays (R129). -/
def MountRecord.meet (m : MountRecord) (c : Cause) : MountRecord :=
  match m.cause with
  | none => { m with cause := some c }
  | some _ => m

end Sys2Proof.Machine
end

