-- ==== Sys2Proof/Machine/Images.lean ====
section
/-! DEFINITION. Image programs and openings of sectors as both writers use them: a job or its fold, and the reclaim unit (R60, R62). -/

namespace Sys2Proof.Machine

/-- The image a writer is writing. -/
def State.writing (s : State) : Writer → Option Writing
  | .host => s.running.bind (·.writing)
  | .reclaim => s.pass.bind (·.copy)

/-- Set the image a writer is writing. -/
def State.setWriting (s : State) (w : Writer) (x : Option Writing) : State :=
  match w with
  | .host => { s with running := s.running.map (fun r => { r with writing := x }) }
  | .reclaim => { s with pass := s.pass.map (fun p => { p with copy := x }) }

/-- Start an image program at the cursor of the OPEN sector (R62): the cursor moves past the image, its lines become pending, and
the header line is programmed. -/
def State.startImage (s : State) (w : Writer) (i : Image) (x : Sector) (cursor : Nat) : State :=
  (s.modSector x (fun r => match r.state with
    | .opened v c => { r with state := .opened v (c + i.lines), pending := r.pending + i.lines }
    | _ => r)).requestLine w ⟨x, cursor⟩ i 0

/-- An image of k lines fits at cursor c when k ≤ 256 − c (R62). -/
def imageFits (i : Image) (cursor : Nat) : Bool :=
  decide (i.lines ≤ 256 - cursor)

/-- Program the FULL mark of a sector. -/
def State.requestFull (s : State) (x : Sector) (field : HeaderField) : State :=
  s.requestHeader x field fullPattern

/-- Open a sector for a writer: it takes the counter's value, the counter advances, and the value is programmed (R59, R60). -/
def State.requestOpen (s : State) (w : Writer) (x : Sector) : State :=
  ({ s with openSequenceNext := openSequenceAfter s.openSequenceNext }).requestHeader x
    (.openSequence w s.openSequenceNext) (openSequencePattern s.openSequenceNext)

/-- The steps of R75 and R103 that both writers share: program the image in the OPEN sector if it fits, close an OPEN sector it
does not fit, and with no sector OPEN go on with the writer's own open request. -/
def State.placeImage (s : State) (w : Writer) (i : Image) (openRequest : State → State) : State :=
  match s.openSector with
  | some (x, _, c) => if imageFits i c then s.startImage w i x c else s.requestFull x (.close w)
  | none => openRequest s

end Sys2Proof.Machine
end

