-- ==== Sys2Proof/Machine/Reclaim.lean ====
section
/-! DEFINITION. The reclaim unit: outcomes that stop a pass, copies, the walk over the victim image by image, pause points, and urgent starts (R93 to
R110). -/

namespace Sys2Proof.Machine

/-! ### Outcomes that stop the work that ran a pass (R105, R109, R110) -/

/-- A pass stops the work that ran it: the store enters READ_ONLY with a cause, and the job in progress ends with a result; with no
job the engine becomes IDLE; in mount's sweep the cause is mount's and the sweep goes to END (R109, R110, R128). -/
def State.stopWork (s : State) (cause : Cause) (result : JobResult) : State :=
  match s.mount with
  | some m => s.mountEnd (m.meet cause)
  | none =>
    let t := s.enterReadOnly cause
    match t.running with
    | some r => t.endRunning r result
    | none => { t with engine := .idle }

/-- Outcome NO_PROGRESS (R109, R110). -/
def State.noProgress (s : State) : State :=
  s.stopWork .noProgress .noSpace

/-- The pass stops and its context is kept, not running (R105, R109). -/
def State.keepPass (s : State) : State :=
  { s with pass := s.pass.map (fun p => { p with running := false, copy := none }) }

/-- Outcome MEDIA: a copy has failed for the third time (R105). -/
def State.copyMedia (s : State) : State :=
  s.keepPass.stopWork .media .mediaFail

/-! ### Copies (R103) -/

/-- The open request of a copy allows the reserve; with no sector the copy is not made and the pass stops with NO_PROGRESS
(R103). Model's choice: which sectors the request may open is judged at each of its choices, so after failed open-sequence programs have
retired every other ERASED sector it opens the reserve, although that was not eligible when the request was taken (R60, log entry 32). -/
def State.openForCopy (s : State) : State :=
  match s.chooseOpen true with
  | some x => s.requestOpen .reclaim x
  | none => s.keepPass.noProgress

/-- Make room for the copy in progress by reclaim's own rule (R103). -/
def State.roomForCopy (s : State) : State :=
  match s.writing .reclaim with
  | some x => s.placeImage .reclaim x.image State.openForCopy
  | none => s

/-- Start the copy of an image of the victim. -/
def State.startCopy (s : State) (i : Image) (source : Loc) : State :=
  (s.setWriting .reclaim (some ⟨i, some source, 0⟩)).roomForCopy

/-! ### The walk (R99 to R102, R107) -/

/-- Set the phase of the pass. -/
def State.setPhase (s : State) (phase : PassPhase) : State :=
  { s with pass := s.pass.map (fun p => { p with phase := phase }) }

/-- The victim is erased once its walk has ended (R107). -/
def State.eraseVictim (s : State) (victim : Sector) : State :=
  (s.setPhase .erasing).request (.erase victim .reclaim)

/-- What the walk does with an image (R99). -/
inductive WalkStep where
  | skip
  | drop (after : State)
  | copy (image : Image)

/-- The SOLO copy of a VALUE or TOMBSTONE of the victim, or the copy of a MARK (R100, R102). -/
def State.copyOf (s : State) (h : ImageHeader) (source : Loc) : Image where
  kind := h.kind
  tagging := .solo
  key := h.key
  generation := h.generation
  value := match h.kind with
    | .value => s.array.readValue source h.length
    | _ => []

/-- The decision for an image at a location of the victim, from a lookup made when the walk reaches it (R100 to R102). -/
def State.walkStep (s : State) (h : ImageHeader) (source : Loc) : WalkStep :=
  match h.kind with
  | .mark => if s.marks.any (fun m => decide (m.loc = source)) then .copy (s.copyOf h source) else .skip
  | .value =>
    if (s.lookup h.key).any (fun e => decide (e.loc = source)) then .copy (s.copyOf h source) else .skip
  | .tombstone =>
    if (s.lookup h.key).any (fun e => decide (e.loc = source)) then
      if h.tagging = .solo ∧ s.isOldest source.sector = true then
        match s.drop h.key source with
        | some t => .drop t
        | none => .copy (s.copyOf h source)
      else .copy (s.copyOf h source)
    else .skip

/-- One step of the walk, at a cursor (R99): the image there is skipped, dropped or copied, or the walk ends and the pass enters ERASING.
After a skip, a drop or the end of the walk the pass has a pause point before it, to which it comes in an event of its own (log entry 28);
after a copy its pause point comes with the copy's completion. -/
def State.walkImage (s : State) (victim : Sector) (c : Nat) : State :=
  if 256 ≤ c then s.setPhase .erasing
  else
    match readImageHeader (s.array.readLine ⟨victim, c⟩) c with
    | .unwritten => s.setPhase .erasing
    | .invalid => s.setPhase .erasing
    | .image h =>
      match s.walkStep h ⟨victim, c⟩ with
      | .skip => s.setPhase (.copying (c + h.lines))
      | .drop t => t.setPhase (.copying (c + h.lines))
      | .copy i => (s.setPhase (.copying c)).startCopy i ⟨victim, c⟩

/-- The pass stops at a pause point or boundary and keeps its phase, victim and mode; the engine takes a state (R106, R147). -/
def State.suspendPass (s : State) (engine : Engine) : State :=
  { s with pass := s.pass.map (fun p => { p with running := false }), engine := engine }

/-- The pass goes on from where its phase says: the next image of the walk, or the erase after it (R99, R107). -/
def State.passOn (s : State) (p : Pass) : State :=
  match p.phase with
  | .marking => s
  | .copying c => s.walkImage p.victim c
  | .erasing => s.eraseVictim p.victim
  | .preparing => s

/-- The pass comes to a pause point (R106, R147): in LOW it stops; a background pass suspends for a queued job; otherwise it goes on. -/
def State.arrive (s : State) (p : Pass) : State :=
  if s.supply = .low then s.suspendPass .paused
  else if p.mode = .background ∧ s.queue ≠ [] then s.suspendPass .idle
  else s.passOn p

/-- The boundary that comes with the completion of the VICTIM mark or of a copy; the cursor moves there (R98, R104). -/
def State.atBoundary (s : State) (p : Pass) (cursor : Nat) : State :=
  (s.setPhase (.copying cursor)).arrive { p with phase := .copying cursor }

/-- An erase of a pass's victim. -/
def ArrayOp.isVictimErase : ArrayOp → Bool
  | .erase _ .reclaim => true
  | _ => false

/-- A running pass that has neither a copy nor an erase in progress: it has skipped or dropped an image, or come to the end of its walk, and
the pause point after that is still before it (R106, R147; log entry 28). -/
def Pass.betweenSteps (p : Pass) (ops : List ArrayOp) : Bool :=
  p.running && p.copy.isNone && (match p.phase with
    | .marking => false
    | .copying _ => true
    | .erasing => !ops.any ArrayOp.isVictimErase
    | .preparing => false)

/-- The pass whose next event is to come to a pause point, if there is one: the engine is RECLAIMING and the pass is between its steps. -/
def State.pausePoint (s : State) : Option Pass :=
  match s.engine with
  | .reclaiming _ => s.pass.filter (fun p => p.betweenSteps s.ops)
  | _ => none

/-! ### Starts and resumption (R97, R98, R106) -/

/-- Program the VICTIM mark (R98). -/
def State.markVictim (s : State) (victim : Sector) : State :=
  s.requestHeader victim .victimMark victimPattern

/-- The pass takes a victim and begins in MARKING (R96, R97). -/
def State.startPass (s : State) (victim : Sector) (mode : PassMode) : State :=
  ({ s with pass := some ⟨.marking, victim, mode, true, none⟩, engine := .reclaiming mode }).markVictim victim

/-- A suspended pass goes on from where it stopped, in a mode (R106, R150). -/
def State.resumePass (s : State) (p : Pass) (mode : PassMode) : State :=
  let t := { s with pass := some { p with mode := mode, running := true }, engine := .reclaiming mode }
  match p.phase with
  | .marking => t.markVictim p.victim
  | _ => t.passOn p

/-- An urgent start (R97): a pass that exists is resumed in URGENT; otherwise the stale choice among sectors with a stale line; with
none, NO_PROGRESS. -/
def State.urgentStart (s : State) : State :=
  match s.pass with
  | some p => s.resumePass p .urgent
  | none =>
    match s.staleChoice 1 with
    | some v => s.startPass v .urgent
    | none => s.noProgress

/-! ### The erase of the victim (R107, R108) -/

/-- The context returns to NONE. -/
def State.endPass (s : State) : State :=
  { s with pass := none }

/-- A new victim after a retirement that left no ERASED sector, in mode URGENT; in LOW the pass stops before its VICTIM mark (R108,
R147). -/
def State.chainPass (s : State) (victim : Sector) : State :=
  if s.supply = .low then
    { s with pass := some ⟨.marking, victim, .urgent, false, none⟩, engine := .paused }
  else s.startPass victim .urgent

/-- What follows the retirement of the victim (R108); `ended` takes the outcome RETIRED to the work that ran the pass. -/
def State.victimRetired (s : State) (ended : State → State) : State :=
  if s.store = .ready ∧ s.hasErased = false then
    match s.endPass.staleChoice 1 with
    | some v => s.chainPass v
    | none => s.endPass.noProgress
  else ended s.endPass

/-- Erase count of a new prepared block: the count plus 1, saturating (R58). -/
def countAfterErase (count : Word32) : Word32 :=
  saturatingSucc count

/-- Ask for the prepared block of an erased sector, with the present epoch (R53, R57). -/
def State.requestPrepared (s : State) (x : Sector) (e : Eraser) (count : Word32) : State :=
  s.requestHeader x (.preparedBlock e count) (preparedPattern s.epoch count)

/-- The prepared block has passed: the sector is ERASED with 255 unwritten lines (R14, R56, R58). -/
def State.markErased (s : State) (x : Sector) (count : Word32) : State :=
  s.modSector x (fun _ => ⟨.erased, count, 0, 0, 0⟩)

end Sys2Proof.Machine
end

