-- ==== Sys2Proof/Machine/Engine.lean ====
section
/-! DEFINITION. The array engine's own steps: ensure-room, the images of a job, fold, the start of each kind of job, and FORMAT (R72 to
R85). -/

namespace Sys2Proof.Machine

/-! ### Ensure-room (R75) -/

/-- Change the job in progress. -/
def State.modRunning (s : State) (f : Running → Running) : State :=
  { s with running := s.running.map f }

/-- The open request of a job or fold does not allow the reserve. With no sector an urgent pass starts, in LOW only on return to
NORMAL (R75, R146). -/
def State.openForHost (s : State) : State :=
  match s.chooseOpen false with
  | some x => s.requestOpen .host x
  | none => if s.supply = .low then { s with engine := .paused } else s.urgentStart

/-- Ensure-room from its first step, for the image of the job or its fold (R75). -/
def State.ensureRoom (s : State) : State :=
  match s.writing .host with
  | some x => s.placeImage .host x.image State.openForHost
  | none => s

/-- Begin an image of the job or its fold, with no failure counted (R85). -/
def State.beginImage (s : State) (i : Image) (source : Option Loc) : State :=
  (s.setWriting .host (some ⟨i, source, 0⟩)).ensureRoom

/-! ### The images of a job, and fold (R73, R84) -/

/-- The job in progress goes on with its next image, or with its switch when every image has passed (R73, R74). -/
def State.nextImage (s : State) : State :=
  match s.running with
  | none => s
  | some r =>
    match (s.jobImages r.job.work r.generation)[r.placed.length]? with
    | some i => s.beginImage i none
    | none => s.switch r

/-- The SOLO copy that a fold makes of an entry's image (R84). -/
def State.foldCopy (s : State) (e : DirEntry) : Image where
  kind := match e.state with
    | .live => .value
    | .deleted => .tombstone
  tagging := .solo
  key := e.key
  generation := e.generation
  value := match e.state with
    | .live => s.array.readValue e.loc e.length
    | .deleted => []

/-- The next entry a fold copies: the first in key order, from the walk's key on, that is TAGGED of the folded generation (R84). -/
def State.foldTarget (s : State) (f : Fold) : Option DirEntry :=
  s.directory.find? (fun e =>
    decide (f.nextKey ≤ e.key.toNat) && decide (e.generation = f.generation) && decide (e.tagging = .tagged))

/-- The fold has ended and the job goes on (R84). -/
def State.endFold (s : State) : State :=
  ({ s.modRunning (fun r => { r with fold := none }) with engine := .running }).nextImage

/-- One step of a fold's walk. -/
def State.foldStep (s : State) (f : Fold) : State :=
  match s.foldTarget f with
  | some e => s.beginImage (s.foldCopy e) (some e.loc)
  | none => s.endFold

/-- The image being written by a fold is still that of the entry it copies. -/
def State.foldStands (s : State) (f : Fold) : Bool :=
  match s.foldTarget f, s.writing .host with
  | some e, some x => decide (x.source = some e.loc)
  | _, _ => false

/-- An urgent pass nested in a fold has ended: the fold repeats ensure-room for the entry it was copying, unless the pass has already
made that entry SOLO, and then passes it over (R75, R84). -/
def State.resumeFold (s : State) (f : Fold) : State :=
  if s.foldStands f then s.ensureRoom else (s.setWriting .host none).foldStep f

/-- A fold copy has passed: its repoint is asked for, and the walk goes on until the entry folded is removed (R84). -/
def State.foldCopied (s : State) (f : Fold) (x : Writing) (loc : Loc) : State :=
  match x.source with
  | none => s
  | some source =>
    let f' : Fold := { f with nextKey := x.image.key.toNat + 1 }
    let t := (s.repoint x.image.key source loc x.image.lines).modRunning (fun r => { r with fold := some f' })
    if t.marks.any (fun m => m.generation == f.generation) then t.foldStep f' else t.endFold

/-- The lowest generation of the mark table (R84). -/
def State.oldestMark (s : State) : Option MarkEntry :=
  selectBy (fun b best => decide (b.generation.toNat < best.generation.toNat)) s.marks

/-- The commit must fold first: two or more entries and a full mark table (R73). -/
def State.mustFold (s : State) (r : Running) : Bool :=
  decide (2 ≤ (s.recordImages r.job.work r.generation).length) && decide (Config.markCapacity ≤ s.marks.length)

/-- The images of the job begin, after a fold where one is needed (R73). -/
def State.beginWriting (s : State) (r : Running) : State :=
  match s.oldestMark with
  | some m =>
    if s.mustFold r then
      let f : Fold := ⟨m.generation, 0⟩
      ({ s.modRunning (fun q => { q with fold := some f }) with engine := .folding }).foldStep f
    else s.nextImage
  | none => s.nextImage

/-- An image of the job or its fold has passed at a location. -/
def State.hostImagePassed (s : State) (r : Running) (x : Writing) (loc : Loc) : State :=
  let t := s.setWriting .host none
  match r.fold with
  | some f => t.foldCopied f x loc
  | none => (t.modRunning (fun q => { q with placed := q.placed ++ [loc] })).nextImage

/-- The third failure of an image of the job or its fold (R86). -/
def State.hostMedia (s : State) (r : Running) : State :=
  (s.enterReadOnly .media).endRunning r .mediaFail

/-! ### The program-failure ladder (R85, R105) -/

/-- The ladder's action after the n-th failure: retry with room, then in a new sector, then stop. The sector manager has already
closed the sector of a failed header (R63). -/
def State.ladder (s : State) (w : Writer) (n : Nat) : State :=
  match w, n with
  | .host, 1 => s.ensureRoom
  | .reclaim, 1 => s.roomForCopy
  | .host, 2 =>
    match s.openSector with
    | some (x, _, _) => s.requestFull x (.close .host)
    | none => s.openForHost
  | .reclaim, 2 =>
    match s.openSector with
    | some (x, _, _) => s.requestFull x (.close .reclaim)
    | none => s.openForCopy
  | .host, _ =>
    match s.running with
    | some r => s.hostMedia r
    | none => s
  | .reclaim, _ => s.copyMedia

/-- A failure of the image being written is counted (R85). -/
def State.countFailure (s : State) (w : Writer) : State :=
  match s.writing w with
  | some x => s.setWriting w (some { x with failures := x.failures + 1 })
  | none => s

/-- The ladder acts on the failures counted so far. -/
def State.climb (s : State) (w : Writer) : State :=
  match s.writing w with
  | some x => s.ladder w x.failures
  | none => s

/-! ### FORMAT (R79 to R81) -/

/-- Every line the directory or the mark table pointed at becomes stale (R79). -/
def State.staleAll (s : State) : State :=
  allSectors.foldl (fun t x => t.modSector x (fun r => { r with live := 0, stale := r.stale + r.live })) s

/-- What an expiry does, at a timeout or at a FORMAT's start: an OPEN context becomes FREE and TXN_EXPIRED is offered to its owner (R39,
R79). -/
def State.expire (s : State) (h : Handle) : State :=
  match s.context h with
  | .opened owner _ _ _ => (s.freeContext h).offer owner (.txnExpired h)
  | _ => s

/-- The end of a FORMAT: the state the store enters (R81). -/
def State.formattedStore (s : State) : Store :=
  if s.nonRetiredCount < 4 then .readOnly .capacity
  else if s.generationNext = 0xFFFFFFFF then .readOnly .generation
  else .ready

/-- The FORMAT job ends, in one event (R81). -/
def State.formatEnd (s : State) (r : Running) : State :=
  (s.announceStore s.formattedStore).endRunning r .ok

/-- The next non-retired sector from an index on (R80). -/
def State.nextToFormat (s : State) (i : Nat) : Option Sector :=
  allSectors.find? (fun x => decide (i ≤ x.val) && s.sectors[x].nonRetired)

/-- The FORMAT goes on with its next sector, stops between two sectors in LOW, or ends (R80, R81, R148). -/
def State.formatNextSector (s : State) (r : Running) : State :=
  match s.nextToFormat r.formatNext with
  | some x =>
    if s.supply = .low then { s with engine := .paused }
    else (s.modRunning (fun q => { q with formatNext := x.val + 1 })).request (.erase x .format)
  | none => s.formatEnd r

/-- The start of a FORMAT (R79). -/
def State.formatStart (s : State) (r : Running) : State :=
  let cleared : State :=
    { s.staleAll with
      epoch := s.epoch + 1
      directory := []
      marks := []
      zones := Vector.replicate 8 none
      pass := none }
  (allHandles.foldl State.expire (cleared.announceStore .formatting)).formatNextSector r

/-! ### The start of a job (R72, R78) -/

/-- The job writes images, so it takes a generation (R3, R72). -/
def Work.writes : Work → Bool
  | .commit _ => true
  | .soloWrite _ _ => true
  | .soloDelete _ => true
  | .zoneUpdate _ => true
  | .reclaimReq => false
  | .format => false

/-- The generation counter after a generation is assigned; at 0xFFFFFFFF it stays (R3, R4). -/
def generationAfter (g : Gen) : Gen :=
  saturatingSucc g

/-- A RECLAIM_REQ job's start: a suspended pass or a pass on the stalest FULL sector runs in URGENT; with neither the job ends at
once (R78). -/
def State.reclaimReqStart (s : State) (r : Running) : State :=
  if s.pass.isSome || (s.staleChoice 1).isSome then s.urgentStart else s.endRunning r .ok

/-- The array is handed to a job, in one event (R72). -/
def State.startJob (s : State) (j : Job) (rest : List Job) : State :=
  let r : Running :=
    { job := j
      generation := if j.work.writes then s.generationNext else 0
      placed := []
      writing := none
      fold := none
      formatNext := 0 }
  let t : State :=
    { s with
      queue := rest
      running := some r
      engine := .running
      generationNext := if j.work.writes then generationAfter s.generationNext else s.generationNext }
  match j.work with
  | .format => t.formatStart r
  | .reclaimReq => t.reclaimReqStart r
  | _ => t.beginWriting r

end Sys2Proof.Machine
end

