-- ==== Sys2Proof/Machine/Mount.lean ====
section
/-! DEFINITION. Mount: header scan, image scan, resolve and sweep (R112 to R128). The first three only read the array and are one
event with the release of reset; the sweep goes on from event to event. -/

namespace Sys2Proof.Machine

/-! ### Header scan (R113, R114) -/

/-- The class of a sector from its header line (R113). -/
def classify (h : HeaderLine) : SectorClass :=
  if h = 0 then .retired
  else if h = BitVec.allOnes 176 then .blank
  else
    match readPrepared h with
    | .absent => .stale
    | .torn => .stale
    | .valid _ =>
      match readOpenSequence h with
      | .absent => if fullMarkSet h || victimMarkSet h then .stale else .erased
      | .torn => .stale
      | .valid _ => if victimMarkSet h then .victim else if fullMarkSet h then .full else .opened

/-- The prepared block of a header, where it is valid and the header is not a retired one (R54). -/
def preparedOf (h : HeaderLine) : Option (Word32 × Word32) :=
  if h = 0 then none
  else match readPrepared h with
    | .valid p => some p
    | _ => none

/-- The open sequence of a header, where it is valid and the header is not a retired one (R54). -/
def openSequenceOf (h : HeaderLine) : Option Word32 :=
  if h = 0 then none
  else match readOpenSequence h with
    | .valid v => some v
    | _ => none

/-- The highest of the numbers a reading gives over all headers, or none (R112, R113). -/
def CellArray.highest (a : CellArray) (f : HeaderLine → Option Word32) : Option Word32 :=
  allSectors.foldl (fun seen x => match f a.headers[x] with
    | some v => maxSeen seen v
    | none => seen) none

/-- A number read at mount, plus 1, or 1 when none was read (R114, R123). -/
def afterHighest {w : Nat} (succ : BitVec w → BitVec w) : Option (BitVec w) → BitVec w
  | none => 1
  | some v => succ v

/-- The class of a sector after R114: an ERASED, OPEN, FULL or VICTIM sector of an older epoch is STALE. -/
def CellArray.classOf (a : CellArray) (epoch : Word32) (x : Sector) : SectorClass :=
  match classify a.headers[x] with
  | .retired => .retired
  | .blank => .blank
  | .stale => .stale
  | c => match preparedOf a.headers[x] with
    | some (e, _) => if e.toNat < epoch.toNat then .stale else c
    | none => .stale

/-- The sectors of a class, ascending. -/
def sectorsOf (classes : List SectorClass) (c : SectorClass) : List Sector :=
  allSectors.filter (fun x => decide (classes.getD x.val .stale = c))

/-- The open sequence of a sector as its header gives it; 0 where it has none, which no opened sector has (R59). -/
def CellArray.sequenceOf (a : CellArray) (x : Sector) : Word32 :=
  (openSequenceOf a.headers[x]).getD 0

/-- The erase count of a sector's prepared block; 0 where it has none. -/
def CellArray.countOf (a : CellArray) (x : Sector) : Word32 :=
  match preparedOf a.headers[x] with
  | some (_, c) => c
  | none => 0

/-- Of the sectors classed OPEN, all but the one with the highest open sequence go on the close list (R114). Model's choice: of several with
the same highest open sequence, which R59 rules out, the one with the highest index, as the latest, stays OPEN (log entry 26). -/
def CellArray.surplusOpen (a : CellArray) (classes : List SectorClass) : List Sector :=
  let opened := sectorsOf classes .opened
  match selectBy (fun b best => decide ((a.sequenceOf best).toNat ≤ (a.sequenceOf b).toNat)) opened with
  | none => []
  | some top => opened.filter (fun x => decide (x ≠ top))

/-! ### Image scan (R116, R117) -/

/-- What the scan of one sector gives: the candidates and the highest generation so far, the line at which it ended, and whether it
puts the sector on the close list. -/
structure SectorScan where
  candidates : List Candidate
  highest : Option Gen
  stop : Nat
  close : Bool

/-- The scan of a sector from line c (R116). The first argument bounds the number of images. `settled` says that the sector is already
FULL or VICTIM. -/
def CellArray.scanFrom (a : CellArray) (x : Sector) (settled inVictim : Bool) :
    Nat → Nat → List Candidate → Option Gen → SectorScan
  | 0, c, found, highest => ⟨found, highest, c, false⟩
  | n + 1, c, found, highest =>
    if 256 ≤ c then ⟨found, highest, c, false⟩
    else
      match readImageHeader (a.readLine ⟨x, c⟩) c with
      | .unwritten =>
        ⟨found, highest, c, !(a.cells.erasedFrom (lineAddress ⟨x, c + 1⟩) (lineAddress ⟨x, 256⟩))⟩
      | .invalid => ⟨found, highest, c, !settled⟩
      | .image h =>
        let candidate : Candidate :=
          { loc := ⟨x, c⟩
            kind := h.kind
            key := h.key
            length := h.length
            generation := h.generation
            tagging := h.tagging
            openSequence := a.sequenceOf x
            inVictim := inVictim }
        let found' := if a.payloadAgrees ⟨x, c⟩ h then found ++ [candidate] else found
        a.scanFrom x settled inVictim n (c + h.lines) found' (maxSeen highest h.generation)

/-- Insert a sector by ascending open sequence. -/
def CellArray.insertBySequence (a : CellArray) (x : Sector) : List Sector → List Sector
  | [] => [x]
  | y :: rest =>
    if (a.sequenceOf x).toNat < (a.sequenceOf y).toNat then x :: y :: rest else y :: a.insertBySequence x rest

/-- Sectors in ascending order of open sequence (R116, R126). -/
def CellArray.bySequence (a : CellArray) (xs : List Sector) : List Sector :=
  xs.foldl (fun sorted x => a.insertBySequence x sorted) []

/-- The image scan so far. -/
structure ArrayScan where
  candidates : List Candidate
  highest : Option Gen
  /-- the line at which each scanned sector's scan ended -/
  stops : List (Sector × Nat)
  closing : List Sector

/-- Scan one more sector; a sector that R114 has put on the close list is classed FULL. -/
def CellArray.scanNext (a : CellArray) (classes : List SectorClass) (surplus : List Sector) (acc : ArrayScan) (x : Sector) :
    ArrayScan :=
  let c := classes.getD x.val .stale
  let settled := decide (c = .full) || decide (c = .victim) || surplus.contains x
  let r := a.scanFrom x settled (decide (c = .victim)) 256 1 acc.candidates acc.highest
  { candidates := r.candidates
    highest := r.highest
    stops := acc.stops ++ [(x, r.stop)]
    closing := if r.close then acc.closing ++ [x] else acc.closing }

/-- The image scan of the OPEN, FULL and VICTIM sectors (R116). -/
def CellArray.scanImages (a : CellArray) (classes : List SectorClass) (surplus : List Sector) : ArrayScan :=
  (a.bySequence (sectorsOf classes .opened ++ sectorsOf classes .full ++ sectorsOf classes .victim)).foldl
    (a.scanNext classes surplus) ⟨[], none, [], []⟩

/-! ### Resolve (R118 to R123) -/

/-- Rows 2 to 4 of R119: outside the VICTIM sector, the higher open sequence, the higher line. -/
def Candidate.laterThan (b best : Candidate) : Bool :=
  if b.inVictim ≠ best.inVictim then !b.inVictim
  else if b.openSequence ≠ best.openSequence then decide (best.openSequence.toNat < b.openSequence.toNat)
  else decide (best.loc.line < b.loc.line)

/-- The order of R119: the higher generation, then SOLO over TAGGED, then rows 2 to 4. -/
def Candidate.beats (b best : Candidate) : Bool :=
  if b.generation ≠ best.generation then decide (best.generation.toNat < b.generation.toNat)
  else if b.tagging ≠ best.tagging then decide (b.tagging = .solo)
  else b.laterThan best

/-- A MARK of a generation is among the candidates (R118). -/
def hasMark (candidates : List Candidate) (g : Gen) : Bool :=
  candidates.any (fun m => decide (m.kind = .mark) && decide (m.generation = g))

/-- A VALUE or TOMBSTONE candidate is valid: SOLO, or TAGGED with its MARK present (R118). -/
def Candidate.valid (candidates : List Candidate) (c : Candidate) : Bool :=
  decide (c.kind ≠ .mark) && (decide (c.tagging = .solo) || hasMark candidates c.generation)

/-- Enter a valid candidate among the winners, which are kept in key order (R119). -/
def enterWinner (c : Candidate) : List Candidate → List Candidate
  | [] => [c]
  | w :: rest =>
    if c.key.toNat < w.key.toNat then c :: w :: rest
    else if c.key = w.key then (if c.beats w then c else w) :: rest
    else w :: enterWinner c rest

/-- The winners, one for each key with a valid image, in ascending key order (R119). -/
def winnersOf (candidates : List Candidate) : List Candidate :=
  (candidates.filter (Candidate.valid candidates)).foldl (fun ws c => enterWinner c ws) []

/-- At most 512 winners are kept: the winner of the zone record, and the lowest other keys (R120). -/
def keptWinners (winners : List Candidate) : List Candidate :=
  let others := winners.filter (fun w => decide (w.key ≠ Config.zoneKey))
  let zone := winners.filter (fun w => decide (w.key = Config.zoneKey))
  zone.foldl (fun ws z => enterWinner z ws) (others.take (Config.directoryCapacity - zone.length))

/-- The directory entry of a winner (R120). -/
def Candidate.entry (c : Candidate) : DirEntry where
  key := c.key
  state := match c.kind with
    | .value => .live
    | _ => .deleted
  loc := c.loc
  length := c.length
  generation := c.generation
  tagging := c.tagging

/-- The generations of the TAGGED entries, each once, in ascending order. -/
def insertGeneration (g : Gen) : List Gen → List Gen
  | [] => [g]
  | h :: rest => if g.toNat < h.toNat then g :: h :: rest else if g = h then h :: rest else h :: insertGeneration g rest

/-- The generations that some TAGGED entry carries (R121). -/
def taggedGenerations (entries : List DirEntry) : List Gen :=
  (entries.filter (fun e => decide (e.tagging = .tagged))).foldl (fun gs e => insertGeneration e.generation gs) []

/-- The number of entries that point at a TAGGED image of a generation (R121). -/
def dependentsOf (entries : List DirEntry) (g : Gen) : Nat :=
  entries.countP (fun e => decide (e.tagging = .tagged) && decide (e.generation = g))

/-- The mark table rebuilt from the directory (R121). -/
def rebuildMarks (candidates : List Candidate) (entries : List DirEntry) : List MarkEntry :=
  (taggedGenerations entries).filterMap (fun g =>
    (selectBy Candidate.laterThan (candidates.filter (fun c => decide (c.kind = .mark) && decide (c.generation = g)))).map
      (fun m => ⟨g, m.loc, dependentsOf entries g⟩))

/-- Live lines of a sector by the rebuilt directory and mark table (R122). -/
def liveIn (entries : List DirEntry) (marks : List MarkEntry) (x : Sector) : Nat :=
  ((entries.filter (fun e => decide (e.loc.sector = x))).map DirEntry.lines).sum
    + marks.countP (fun m => decide (m.loc.sector = x))

/-- One entry of the zone record; an entry of 8 bytes decodes by itself (R140). -/
def decodeZoneEntry (bytes : List Byte) : Option Zone :=
  match bytes with
  | [defined, lowHigh, lowLow, highHigh, highLow, links, attributes, _] =>
    let low := word16 lowHigh lowLow
    let high := word16 highHigh highLow
    if defined = 1 ∧ low.toNat ≤ high.toNat ∧ 0x0001 ≤ low.toNat ∧ high.toNat ≤ 0xFEFF then
      some ⟨low, high, links.getLsbD 0, links.getLsbD 1, attributes.getLsbD 0, attributes.getLsbD 1⟩
    else none
  | _ => none

/-- Two ranges share a key (R131). -/
def Zone.overlaps (a b : Zone) : Bool :=
  decide (a.low.toNat ≤ b.high.toNat) && decide (b.low.toNat ≤ a.high.toNat)

/-- A zone meets some defined zone of a list. -/
def meetsAny (z : Zone) (zs : List (Option Zone)) : Bool :=
  zs.any (fun o => match o with
    | some w => z.overlaps w
    | none => false)

/-- An entry overlaps an entry earlier in index order (R140), whatever that entry was itself loaded as. -/
def decodeZones (bytes : List Byte) : ZoneTable :=
  let raw := (List.range 8).map (fun i => decodeZoneEntry ((bytes.drop (8 * i)).take 8))
  let keep (i : Nat) : Option Zone :=
    match raw.getD i none with
    | some z => if meetsAny z (raw.take i) then none else some z
    | none => none
  #v[keep 0, keep 1, keep 2, keep 3, keep 4, keep 5, keep 6, keep 7]

/-- The zone table loaded at the end of resolve (R123, R140). -/
def CellArray.loadZones (a : CellArray) (entry : Option DirEntry) : ZoneTable :=
  match entry with
  | some e =>
    if e.state = .live ∧ e.length = 64 then decodeZones (a.readValue e.loc 64) else Vector.replicate 8 none
  | none => Vector.replicate 8 none

/-! ### Scan and resolve as one event -/

/-- The record a sector has once resolve has ended (R114, R117, R122). `retiredCount` is the count that a RETIRED class takes
(R113). -/
def CellArray.recordOf (a : CellArray) (c : SectorClass) (closing : Bool) (stop : Nat) (live : Nat) (retiredCount : Word32)
    (x : Sector) : SectorRecord :=
  let v := a.sequenceOf x
  match c with
  | .retired => ⟨.retired, retiredCount, 0, 0, 0⟩
  | .blank => SectorRecord.reset
  | .stale => SectorRecord.reset
  | .erased => ⟨.erased, a.countOf x, 0, 0, 0⟩
  | .opened =>
    if closing then ⟨.full v, a.countOf x, live, 0, 255 - live⟩
    else ⟨.opened v stop, a.countOf x, live, 0, stop - 1 - live⟩
  | .full => ⟨.full v, a.countOf x, live, 0, 255 - live⟩
  | .victim => if closing then ⟨.full v, a.countOf x, live, 0, 255 - live⟩ else ⟨.victim v, a.countOf x, live, 0, 255 - live⟩

/-- Set the records of sectors. -/
def State.setRecords (s : State) (f : Sector → SectorRecord) : State :=
  allSectors.foldl (fun t x => t.modSector x (fun _ => f x)) s

/-- The end of a mount that finds no valid prepared block: BLANK (R115). -/
def State.mountBlank (s : State) (classes : List SectorClass) : State :=
  let t := s.setRecords (fun x =>
    if classes.getD x.val .stale = .retired then ⟨.retired, 0, 0, 0, 0⟩ else ⟨.unprepared, 0, 0, 0, 0⟩)
  ({ t with openSequenceNext := 1, generationNext := 1 }).leaveMounting .blank

/-- The generation counter that resolve sets (R123). -/
def counterAfter (highest : Option Gen) : Gen :=
  afterHighest saturatingSucc highest

/-- The cause mount has met when resolve ends: DIRECTORY before GENERATION (R120, R123). -/
def resolveCause (winners : Nat) (next : Gen) : Option Cause :=
  if Config.directoryCapacity < winners then some .directory
  else if Config.generationLimit ≤ next.toNat then some .generation
  else none

/-- Image scan and resolve (R116 to R123), for a store with a valid prepared block. -/
def State.resolve (s : State) (epoch : Word32) : State :=
  let a := s.array
  let classes := allSectors.map (a.classOf epoch)
  let surplus := a.surplusOpen classes
  let scan := a.scanImages classes surplus
  let winners := winnersOf scan.candidates
  let entries := (keptWinners winners).map Candidate.entry
  let marks := rebuildMarks scan.candidates entries
  let closeList := allSectors.filter (fun x => surplus.contains x || scan.closing.contains x)
  let victims := (a.bySequence (sectorsOf classes .victim)).filter (fun x => !closeList.contains x)
  let retiredCount := (a.highest (fun h => (preparedOf h).map (·.2))).getD 0
  let stopOf (x : Sector) : Nat := ((scan.stops.find? (fun p => p.1 == x)).map (·.2)).getD 256
  let next := counterAfter scan.highest
  let t := s.setRecords (fun x =>
    a.recordOf (classes.getD x.val .stale) (closeList.contains x) (stopOf x) (liveIn entries marks x) retiredCount x)
  { t with
    epoch := epoch
    openSequenceNext := afterHighest openSequenceAfter (a.highest openSequenceOf)
    generationNext := next
    directory := entries
    marks := marks
    zones := a.loadZones (entries.find? (fun e => e.key == Config.zoneKey))
    mount := some
      { phase := .sweep
        classes := classes
        candidates := scan.candidates
        highestGeneration := scan.highest
        highestOpenSequence := a.highest openSequenceOf
        highestEraseCount := a.highest (fun h => (preparedOf h).map (·.2))
        highestEpoch := some epoch
        closeList := closeList
        cause := resolveCause winners.length next
        eraseList := allSectors.filter (fun x => [SectorClass.stale, SectorClass.blank].contains (classes.getD x.val .stale))
        victims := victims } }

/-! ### Sweep (R124 to R127) -/

/-- Change the mount record. -/
def State.setMount (s : State) (m : MountRecord) : State :=
  { s with mount := some m }

/-- The sweep is held while the supply is LOW (R149). -/
def State.holdSweep (s : State) : State :=
  { s with engine := .paused }

/-- The sweep's next step, in the order of R124 to R127; in LOW no step starts (R149). A mount with nothing left to do ends. -/
def State.sweepNext (s : State) (m : MountRecord) : State :=
  match m.eraseList with
  | x :: rest =>
    if s.supply = .low then s.holdSweep else (s.setMount { m with eraseList := rest }).request (.erase x .sweep)
  | [] =>
    match m.closeList with
    | x :: rest =>
      if s.supply = .low then s.holdSweep else (s.setMount { m with closeList := rest }).requestFull x .closeSwept
    | [] =>
      match m.victims with
      | x :: rest =>
        if s.supply = .low then s.holdSweep
        else (s.setMount { m with victims := rest }).resumePass ⟨.copying 1, x, .urgent, true, none⟩ .urgent
      | [] =>
        if s.hasErased then s.mountEnd m
        else if s.supply = .low then s.holdSweep
        else s.urgentStart

/-- The sweep goes on with its next step, in engine state MOUNTING (R126). -/
def State.sweepOn (s : State) : State :=
  match s.mount with
  | some m => ({ s with engine := .mounting }).sweepNext m
  | none => s

/-- Header scan, and what follows it, from the release of reset (R113 to R123). -/
def State.mountScan (s : State) : State :=
  match s.array.highest (fun h => (preparedOf h).map (·.1)) with
  | none => s.mountBlank (allSectors.map (fun x => classify s.array.headers[x]))
  | some epoch => (s.resolve epoch).sweepOn

/-- The erase count that the sweep gives a sector (R124). -/
def State.sweptCount (s : State) (x : Sector) (header : HeaderLine) : Word32 :=
  match preparedOf header with
  | some (_, c) => countAfterErase c
  | none => match s.mount with
    | some m => m.highestEraseCount.getD 0
    | none => s.sectors[x].eraseCount

end Sys2Proof.Machine
end

