-- ==== Sys2Proof/Machine/ArrayEvents.lean ====
section
/-! DEFINITION. The events of the array and the engine: LINE_PROGRAM_DONE, SECTOR_ERASE_DONE, JOB_START, BACKGROUND_PASS_START and
PASS_RESUME. -/

namespace Sys2Proof.Machine

/-- Reset is held: the part takes no event but RESET_RELEASE (R143; log entry 12). -/
def State.unlessHeld (s : State) (f : State → State) : State :=
  if s.held then s else f s

/-! ### What a completed pass, copy or image leads to -/

/-- A pass has ended with DONE or RETIRED, its context NONE: the outcome goes to the sweep, to the job in progress or, for a
background pass, to nobody (R70, R109, R128). -/
def State.passEnded (s : State) : State :=
  match s.mount with
  | some _ => s.sweepOn
  | none =>
    match s.running with
    | none => { s with engine := .idle }
    | some r =>
      match r.job.work with
      | .reclaimReq => s.endRunning r .ok
      | _ => match r.fold with
        | some f => ({ s with engine := .folding }).resumeFold f
        | none => ({ s with engine := .running }).ensureRoom

/-- A copy of the reclaim unit has passed at a location: repoint or relocation, then the boundary (R104, R106). -/
def State.copyPassed (s : State) (p : Pass) (x : Writing) (loc : Loc) : State :=
  match x.source with
  | none => s
  | some source =>
    let t := s.setWriting .reclaim none
    let moved := match x.image.kind with
      | .mark => t.relocateMark source loc
      | _ => t.repoint x.image.key source loc x.image.lines
    moved.atBoundary p (source.line + x.image.lines)

/-- An image program has completed with PASS: its writer acts (R62). -/
def State.imagePassed (s : State) (w : Writer) (x : Writing) (loc : Loc) : State :=
  match w with
  | .host => match s.running with
    | some r => s.hostImagePassed r x loc
    | none => s
  | .reclaim => match s.pass with
    | some p => s.copyPassed p x loc
    | none => s

/-- A line of an image has passed: the next line is programmed, or the image is complete (R62). -/
def State.linePassed (s : State) (w : Writer) (start : Loc) (n : Nat) : State :=
  match s.writing w with
  | none => s
  | some x =>
    if n + 1 < x.image.lines then s.requestLine w start x.image (n + 1) else s.imagePassed w x start

/-- A line of an image has failed (R63): the image's lines become stale and the failure is counted; a failed header closes the
sector before the ladder's next step. -/
def State.lineFailed (s : State) (w : Writer) (start : Loc) (n : Nat) : State :=
  match s.writing w with
  | none => s
  | some x =>
    let t := (s.pendingToStale start.sector x.image.lines).countFailure w
    if n = 0 then t.requestFull start.sector (.closeFailed w) else t.climb w

/-! ### What a completed header program leads to -/

/-- The open-sequence program has passed: the sector is OPEN with cursor 1 (R60). -/
def State.markOpened (s : State) (x : Sector) (value : Word32) : State :=
  s.modSector x (fun r => { r with state := .opened value 1, live := 0, pending := 0, stale := 0 })

/-- A writer's open request goes on with its next choice (R60). It looks at the sector table again, so a copy's request opens the reserve once
the failed sectors before it are RETIRED and it is the only ERASED sector left (the model's choice, log entry 32). -/
def State.openAgain (s : State) : Writer → State
  | .host => s.openForHost
  | .reclaim => s.openForCopy

/-- A writer's room rule, from its first step. -/
def State.makeRoom (s : State) : Writer → State
  | .host => s.ensureRoom
  | .reclaim => s.roomForCopy

/-- The sector of a FORMAT has been prepared or retired: the job goes on (R80). -/
def State.formatOn (s : State) : State :=
  match s.running with
  | some r => s.formatNextSector r
  | none => s

/-- An erase or its prepared block has failed: the sector is retired and the requester goes on (R64, R80, R108, R124). -/
def State.eraseFailed (s : State) (x : Sector) (e : Eraser) : State :=
  let t := s.retire x
  match e with
  | .reclaim => t.victimRetired State.passEnded
  | .format => t.formatOn
  | .sweep => t.sweepOn

/-- A prepared block has passed: the sector is ERASED and the requester goes on (R80, R107, R124). -/
def State.preparedPassed (s : State) (x : Sector) (e : Eraser) (count : Word32) : State :=
  let t := s.markErased x count
  match e with
  | .reclaim => t.endPass.passEnded
  | .format => t.formatOn
  | .sweep => t.sweepOn

/-- The VICTIM mark has completed, with PASS or FAIL: the sector is VICTIM and the walk begins at line 1, after a boundary (R56, R98). -/
def State.victimMarked (s : State) (x : Sector) : State :=
  let t := s.modSector x (fun r => match r.state with
    | .full v => { r with state := .victim v }
    | _ => r)
  match t.pass with
  | some p => t.atBoundary p 1
  | none => t

/-- A header field's program has completed. -/
def State.headerDone (s : State) (x : Sector) (passed : Bool) : HeaderField → State
  | .openSequence w value => if passed then (s.markOpened x value).makeRoom w else (s.retire x).openAgain w
  | .close w => (s.markFull x).openAgain w
  | .closeFailed w => (s.markFull x).climb w
  | .closeSwept => (s.markFull x).sweepOn
  | .victimMark => s.victimMarked x
  | .preparedBlock e count => if passed then s.preparedPassed x e count else s.eraseFailed x e
  | .retired => s

/-! ### The events -/

/-- The operation at the head has completed and leaves the sector manager. -/
def State.popOp (s : State) (rest : List ArrayOp) (a : CellArray) : State :=
  { s with ops := rest, array := a }

/-- The pause points that a pass passes before its next array operation or its stop, one after another (R99, R106, R147). The first argument
bounds their number: a sector holds at most 255 images. -/
def State.passPoints : Nat → State → State
  | 0, s => s
  | n + 1, s =>
    match s.pausePoint with
    | some p => State.passPoints n (s.arrive p)
    | none => s

/-- The state in which an operation completes. With none in progress a completion can only be that of the operation the pass has still to
come to, so the events of the walk before it are taken first (log entry 28). -/
def State.caughtUp (s : State) : State :=
  if s.ops.isEmpty then State.passPoints 258 s else s

/-- The line program at the head completes and is verified (R49); none where the operation in progress is no line program. -/
def State.lineCompleted (s : State) (readback : LineReadback) : Option State :=
  match s.ops with
  | .image w start n _ expected :: rest =>
    let loc : Loc := ⟨start.sector, start.line + n⟩
    let content := contentAfter readback (s.array.readLine loc) expected
    let t := s.popOp rest (s.array.writeLine loc content)
    some (if content = expected then t.linePassed w start n else t.lineFailed w start n)
  | .header x field _ expected :: rest =>
    let content := contentAfter readback s.array.headers[x] expected
    some ((s.popOp rest (s.array.writeHeader x content)).headerDone x (decide (content = expected)) field)
  | _ => none

/-- A line program completes (R49); with none that could complete nothing happens (log entry 12). -/
def State.lineProgramDone (s : State) (readback : LineReadback) : State :=
  (s.caughtUp.lineCompleted readback).getD s

/-- The erase count for the prepared block of a sector just erased, whose header read so before (R58, R80, R107, R124). -/
def State.countFor (s : State) (x : Sector) (header : HeaderLine) : Eraser → Word32
  | .sweep => s.sweptCount x header
  | .reclaim => countAfterErase s.sectors[x].eraseCount
  | .format => countAfterErase s.sectors[x].eraseCount

/-- The phase of the pass becomes PREPARING when the victim's erase has passed (R107). -/
def State.erasePassed (s : State) (x : Sector) (e : Eraser) (count : Word32) : State :=
  match e with
  | .reclaim => (s.setPhase .preparing).requestPrepared x e count
  | .format => s.requestPrepared x e count
  | .sweep => s.requestPrepared x e count

/-- An erase that has failed leaves no valid prepared block in the header: it is gone or damaged (R50). A readback that shows one is an event
that cannot occur (log entry 12). -/
def eraseCanLeave : EraseReadback → Bool
  | .asExpected => true
  | .reads content => (preparedOf content.header).isNone

/-- What a sector holds after an erase that read back so. -/
def CellArray.afterErase (a : CellArray) (x : Sector) : EraseReadback → CellArray
  | .asExpected => a.eraseSector x
  | .reads content => a.writeSector x content

/-- The sector has read back and its requester acts on PASS or FAIL (R50). -/
def State.eraseVerified (s : State) (x : Sector) (e : Eraser) (rest : List ArrayOp) (a : CellArray) : State :=
  let t := s.popOp rest a
  if a.sectorErased x then t.erasePassed x e (s.countFor x s.array.headers[x] e) else t.eraseFailed x e

/-- The erase at the head completes and is verified (R50); none where the operation in progress is no erase, or the readback cannot be. -/
def State.eraseCompleted (s : State) (readback : EraseReadback) : Option State :=
  match s.ops with
  | .erase x e :: rest =>
    if eraseCanLeave readback then some (s.eraseVerified x e rest (s.array.afterErase x readback)) else none
  | _ => none

/-- A sector erase completes (R50); with none that could complete nothing happens (log entry 12). -/
def State.sectorEraseDone (s : State) (readback : EraseReadback) : State :=
  (s.caughtUp.eraseCompleted readback).getD s

/-- A background pass between its steps gives the array back to a queued job at the pause point before it, in NORMAL supply, so that the
job can start (R71, R106; log entry 28). -/
def State.yielded (s : State) : State :=
  match s.pausePoint with
  | some p => if p.mode = .background ∧ s.supply = .normal ∧ s.queue ≠ [] then s.arrive p else s
  | none => s

/-- The engine starts the job at the head of the queue (R71, R72): it is IDLE and the supply NORMAL. -/
def State.jobStart (s : State) : State :=
  match s.queue with
  | j :: rest => if s.yielded.engine = .idle ∧ s.supply = .normal then s.yielded.startJob j rest else s
  | [] => s

/-- A background pass starts where its trigger holds (R96). -/
def State.backgroundPassStart (s : State) : State :=
  if s.backgroundTrigger then
    match s.backgroundVictim with
    | some v => s.startPass v .background
    | none => s
  else s

/-- A suspended pass resumes in BACKGROUND (R106). -/
def State.passResume (s : State) : State :=
  match s.pass with
  | some p => if s.backgroundAllowed ∧ p.running = false then s.resumePass p .background else s
  | none => s

/-- LINE_PROGRAM_DONE. -/
def execLineProgramDone (readback : LineReadback) (s : State) : Host.Outcome State Fault Refusal :=
  .next (s.unlessHeld (fun t => (t.lineProgramDone readback).settle))

/-- SECTOR_ERASE_DONE. -/
def execSectorEraseDone (readback : EraseReadback) (s : State) : Host.Outcome State Fault Refusal :=
  .next (s.unlessHeld (fun t => (t.sectorEraseDone readback).settle))

/-- JOB_START. -/
def execJobStart (s : State) : Host.Outcome State Fault Refusal :=
  .next (s.unlessHeld (fun t => t.jobStart.settle))

/-- BACKGROUND_PASS_START. -/
def execBackgroundPassStart (s : State) : Host.Outcome State Fault Refusal :=
  .next (s.unlessHeld (fun t => t.backgroundPassStart.settle))

/-- PASS_RESUME. -/
def execPassResume (s : State) : Host.Outcome State Fault Refusal :=
  .next (s.unlessHeld (fun t => t.passResume.settle))

end Sys2Proof.Machine
end

