-- ==== Sys2Proof/Machine/ResetSupply.lean ====
section
/-! DEFINITION. Reset, its release, the supply changes and the idle timers: RESET, RESET_RELEASE, SUPPLY_LOW, SUPPLY_NORMAL and
IDLE_TIMER_EXPIRY. -/

namespace Sys2Proof.Machine

/-! ### Reset (R52, R143) -/

/-- What the array holds after a reset that cuts off the operation in progress, if there is one (R52). Operations that wait have not
started. -/
def CellArray.cutOff (a : CellArray) (torn : HeaderLine) (left : SectorContent) : List ArrayOp → CellArray
  | [] => a
  | .image _ start n _ expected :: _ =>
    let loc : Loc := ⟨start.sector, start.line + n⟩
    a.writeLine loc (tornLine (a.readLine loc) expected (torn.setWidth 128))
  | .header x _ _ expected :: _ => a.writeHeader x (tornLine a.headers[x] expected torn)
  | .erase x _ :: _ => a.writeSector x left

/-- RESET: the array operation in progress is cut off and all working memory takes its reset value (R143). -/
def execReset (torn : HeaderLine) (left : SectorContent) (s : State) : Host.Outcome State Fault Refusal :=
  .next (State.resetWith (s.array.cutOff torn left s.ops) s.pending)

/-- RESET_RELEASE: the supply state and the BAUD strap are sampled and mount runs (R112, R142, R157). -/
def execResetRelease (supply : Supply) (rate : UartRate) (s : State) : Host.Outcome State Fault Refusal :=
  .next (if s.held then ({ s with held := false, supply := supply, uartRate := rate }).mountScan.settle else s)

/-! ### Supply (R142, R144, R146 to R150) -/

/-- A SUPPLY notice is offered to both links once mount has ended (R144). -/
def State.announceSupply (s : State) : State :=
  match s.store with
  | .mounting => s
  | _ => s.offerBoth (.supply s.supply)

/-- The job in progress goes on from where LOW held it: a FORMAT with its next sector, any other job with an urgent start, which
resumes a pass stopped by the supply (R150). -/
def State.resumeJob (s : State) (r : Running) : State :=
  match r.job.work with
  | .format => ({ s with engine := .running }).formatNextSector r
  | _ => s.urgentStart

/-- Mount's sweep goes on from where LOW held it (R149, R150). -/
def State.resumeSweep (s : State) : State :=
  match s.pass with
  | some p => s.resumePass p .urgent
  | none => s.sweepOn

/-- The engine leaves PAUSED: held work goes on; with none the engine is IDLE for its choice of R71 (R150). -/
def State.leavePaused (s : State) : State :=
  if s.engine = .paused then
    match s.mount with
    | some _ => s.resumeSweep
    | none =>
      match s.running with
      | some r => s.resumeJob r
      | none => { s with engine := .idle }
  else s

/-- SUPPLY_LOW: in NORMAL the supply state becomes LOW (R142). -/
def execSupplyLow (s : State) : Host.Outcome State Fault Refusal :=
  .next (s.unlessHeld (fun t => match t.supply with
    | .normal => ({ t with supply := .low }).announceSupply.settle
    | .low => t))

/-- SUPPLY_NORMAL: in LOW the supply state becomes NORMAL and the engine leaves PAUSED (R142, R150). Model's choice: SUPPLY is offered first,
before the notices of work that resumes and ends in the same event, such as an urgent start that meets NO_PROGRESS (R144, R189; log entry
33). -/
def execSupplyNormal (s : State) : Host.Outcome State Fault Refusal :=
  .next (s.unlessHeld (fun t => match t.supply with
    | .low => ({ t with supply := .normal }).announceSupply.leavePaused.settle
    | .normal => t))

/-! ### Idle timers (R38, R39) -/

/-- An OPEN context whose idle timer has reached its timeout expires; no other does (R39, R40). -/
def State.expireDue (s : State) (h : Handle) : State :=
  if (s.context h).due then s.expire h else s

/-- IDLE_TIMER_EXPIRY: a context whose idle timer has reached its timeout expires (R39). Below the timeout the event cannot occur, as after
a request that has restarted the timer (R40). -/
def execIdleTimerExpiry (handle : Handle) (s : State) : Host.Outcome State Fault Refusal :=
  .next (s.unlessHeld (fun t => t.expireDue handle))

/-- One millisecond of a context: an expiry that is due is taken before the time passes; otherwise the timer counts (R38, R39). -/
def State.tickContext (s : State) (h : Handle) : State :=
  if (s.context h).due then s.expire h else s.setContext h (s.context h).tick

/-- One millisecond passes for each context, in order of handles (R38, R39; log entry 10). -/
def State.tick (s : State) : State :=
  allHandles.foldl State.tickContext s

/-! ### No command waits -/

/-- What happens with no command waiting: a pass between its steps comes to its pause point; with none one millisecond passes (log entries
10 and 28). -/
def State.quiet (s : State) : State :=
  s.unlessHeld (fun t => match t.pausePoint with
    | some p => (t.arrive p).settle
    | none => t.tick)

end Sys2Proof.Machine
end

