-- ==== Sys2Proof/Machine/Links.lean ====
section
/-! DEFINITION. The two link framers: the receive machine, acceptance, cuts and the departure of frames: FRAME_RECEIVED, CS_RISE,
UART_FRAMING_ERROR, GAP_TIMER_EXPIRY, FRAME_SENT and FRAME_ABANDONED (R153 to R165). -/

namespace Sys2Proof.Machine

/-! ### Acceptance of a good frame (R158, R197) -/

/-- The TYPE of a reply: the request's TYPE plus 0x80, or a TYPE of 0x80 or above as received (R168). -/
def replyType (typ : Byte) : Byte :=
  if typ.msb then typ else typ + 0x80

/-- A frame enters a slot. -/
def Framer.queueFrame (f : Framer) (frame : Frame) : Framer :=
  { f with out := f.out ++ [frame] }

/-- The OVERRUN reply of a request that is not taken (R158). -/
def overrunReply (tag typ : Byte) : Frame where
  tag := tag
  typ := replyType typ
  payload := [0x60]

/-- A good frame is dropped (R165). -/
def Framer.drop (f : Framer) : Framer :=
  { f with dropped := saturatingSucc f.dropped }

/-- The retry cache holds this TAG and TYPE (R158 step 1). -/
def Framer.cachedReply (f : Framer) (tag typ : Byte) : Option Frame :=
  match f.retry with
  | some e => if e.tag = tag ∧ e.typ = typ then some e.reply else none
  | none => none

/-- A request with this TAG waits in the FIFO or is in service (R158 step 2). -/
def Framer.inFlight (f : Framer) (tag : Byte) : Bool :=
  f.fifo.any (fun r => r.tag == tag) || f.inService.any (fun r => r.tag == tag)

/-- A request joins the FIFO and takes a reply reservation (R158 step 3). -/
def Framer.enqueue (f : Framer) (r : Request) : Framer :=
  { f with fifo := f.fifo ++ [r], reservations := f.reservations + 1 }

/-- Acceptance of a good frame: the first step of R158 that applies settles it. -/
def Framer.accept (f : Framer) (r : Request) : Framer :=
  match f.cachedReply r.tag r.typ with
  | some reply => if 0 < f.freeSlots then f.queueFrame reply else f.drop
  | none =>
    if f.inFlight r.tag then f
    else if f.fifo.length < Config.inboundPlaces ∧ 0 < f.freeSlots ∧ f.backlog.isEmpty = true then f.enqueue r
    else if 0 < f.freeSlots then f.queueFrame (overrunReply r.tag r.typ)
    else f.drop

/-! ### The receive machine (R153) -/

/-- A frame is abandoned or discarded: CHECK_ERRORS rises and the machine hunts (R153). -/
def Framer.checkError (f : Framer) : Framer :=
  { f with rx := .hunt, checkErrors := saturatingSucc f.checkErrors }

/-- A frame whose CHECK agrees: GOOD_FRAMES rises, the machine hunts, and the frame goes to acceptance (R153). -/
def Framer.goodFrame (f : Framer) (r : Request) : Framer :=
  ({ f with rx := .hunt, goodFrames := saturatingSucc f.goodFrames }).accept r

/-- A frame being gathered is cut (R153, R165). -/
def Framer.cut (f : Framer) : Framer :=
  match f.rx with
  | .hunt => f
  | _ => { f with rx := .hunt, cutFrames := saturatingSucc f.cutFrames }

/-- A byte in HEADER (R153): the second LENGTH byte is judged, and the TYPE byte opens BODY or CHECK. -/
def Framer.headerByte (f : Framer) (got : List Byte) (b : Byte) : Framer :=
  match got with
  | [] => { f with rx := .header [b] }
  | [high] => if Config.maxLength < (word16 high b).toNat then f.checkError else { f with rx := .header [high, b] }
  | [high, low] => { f with rx := .header [high, low, b] }
  | high :: low :: tag :: _ =>
    let length := (word16 high low).toNat
    if length = 0 then { f with rx := .check 0 tag b [] none } else { f with rx := .body length tag b [] }

/-- The receive machine takes one byte (R153). -/
def Framer.takeByte (f : Framer) (b : Byte) : Framer :=
  match f.rx with
  | .hunt => if b = Config.sync then { f with rx := .header [] } else f
  | .header got => f.headerByte got b
  | .body length tag typ got =>
    let payload := got ++ [b]
    if payload.length < length then { f with rx := .body length tag typ payload }
    else { f with rx := .check length tag typ payload none }
  | .check length tag typ payload none => { f with rx := .check length tag typ payload (some b) }
  | .check length tag typ payload (some first) =>
    if word16 first b = crc16 (be16Nat length ++ [tag, typ] ++ payload) then f.goodFrame ⟨tag, typ, payload⟩
    else f.checkError

/-! ### Sending (R154, R155, R157) -/

/-- The last byte of the head frame has gone out: it leaves its slot, which the backlog takes at once (R155, R163). -/
def Framer.depart (f : Framer) : Framer :=
  match f.out with
  | [] => f
  | _ :: rest => ({ f with out := rest, sent := 0 }).drainBacklog

/-- The byte that goes out next: the first unsent byte of the head frame, in frame order from SYNC to the second CHECK byte. With no frame
queued Link 0 shifts out the fill byte and the line of Link 1 idles (R155, R157, R164). -/
def Framer.outByte (l : Link) (f : Framer) : Option Byte :=
  match f.out with
  | head :: _ => some (head.bytes.getD f.sent Config.fill)
  | [] => match l with
    | .link0 => some Config.fill
    | .link1 => none

/-- The byte of the head frame that goes out is complete; with its last byte the frame leaves its slot in the same event (R155, R157). -/
def Framer.byteGone (f : Framer) : Framer :=
  match f.out with
  | [] => f
  | head :: _ => if head.size ≤ f.sent + 1 then f.depart else { f with sent := f.sent + 1 }

/-- One byte goes out. -/
def Framer.sendByte (l : Link) (f : Framer) : Framer :=
  { f.byteGone with wire := f.wire ++ (f.outByte l).toList }

/-- A number of bytes go out, one after another. -/
def Framer.sendBytes (l : Link) : Nat → Framer → Framer
  | 0, f => f
  | n + 1, f => Framer.sendBytes l n (f.sendByte l)

/-- One byte position of a window of Link 0 moves a byte out and a byte in (R154). The byte out is taken when the position starts; where both
complete a frame, the frame that leaves comes first (log entry 6). -/
def Framer.clock (f : Framer) (b : Byte) : Framer :=
  (f.sendByte .link0).takeByte b

/-- What a traffic sends, its received bytes apart. -/
def Framer.sends (f : Framer) (t : Traffic) : Framer :=
  ({ f with wire := [] }).sendBytes t.link t.count

/-- The traffic of a link since its last command: on Link 0 byte position by byte position, on Link 1 the characters sent and then those
received (log entry 6). -/
def Framer.traffic (f : Framer) (t : Traffic) : Framer :=
  match t with
  | .spi rx => rx.foldl Framer.clock { f with wire := [] }
  | .uart rx _ => rx.foldl Framer.takeByte (f.sends t)

/-! ### The commands -/

/-- Change the framer of a link. -/
def State.modLink (s : State) (l : Link) (f : Framer → Framer) : State :=
  s.setLink l (f (s.link l))

/-- A link moves its traffic, and an event of the link follows. While reset is held nothing is received, and what goes out is what an empty
queue gives: 0xFF on Link 0 and an idle line on Link 1 (R143, R164). -/
def State.move (s : State) (t : Traffic) (event : Framer → Framer) : State :=
  s.modLink t.link (fun f => if s.held then f.sends t else event (f.traffic t))

/-- FRAME_RECEIVED: the receive machine takes the bytes, the last of which completes a CHECK (R153, R158). -/
def execFrameReceived (port : Port) (rx : List Byte) (last : Byte) (s : State) : Host.Outcome State Fault Refusal :=
  .next (s.move (port.traffic (rx ++ [last])) id)

/-- FRAME_ABANDONED: the receive machine takes the bytes, the last of which is a second LENGTH byte giving more than 272; the machine
itself abandons the frame (R153). -/
def execFrameAbandoned (port : Port) (rx : List Byte) (last : Byte) (s : State) : Host.Outcome State Fault Refusal :=
  .next (s.move (port.traffic (rx ++ [last])) id)

/-- CS_RISE: the window of Link 0 ends and a frame being gathered is cut. The bits of an incomplete byte form no byte, and the byte that was
going out with them counts as not sent, so they change nothing (R154, R155). -/
def execCsRise (rx : List Byte) (_bits : List Bool) (s : State) : Host.Outcome State Fault Refusal :=
  .next (s.move (.spi rx) Framer.cut)

/-- UART_FRAMING_ERROR: a character of Link 1 forms no byte and a frame being gathered is cut (R157). -/
def execUartFramingError (rx : List Byte) (tx : Nat) (s : State) : Host.Outcome State Fault Refusal :=
  .next (s.move (.uart rx tx) Framer.cut)

/-- GAP_TIMER_EXPIRY: the gap on Link 1 exceeds 2 ms and a frame being gathered is cut (R157). -/
def execGapTimerExpiry (rx : List Byte) (tx : Nat) (s : State) : Host.Outcome State Fault Refusal :=
  .next (s.move (.uart rx tx) Framer.cut)

/-- FRAME_SENT: the link's traffic, whose last byte out is the last byte of the head frame, which leaves its slot (R155, R157). -/
def execFrameSent (traffic : Traffic) (s : State) : Host.Outcome State Fault Refusal :=
  .next (s.move traffic id)

end Sys2Proof.Machine
end

