-- ==== Sys2Proof/Machine/Operands.lean ====
section
/-! DEFINITION. The operands of requests: TYPE and status codes, the format step that reads a request's payload (R168, R183), the key
step (R1), the store gate (R21) and the handle step (R24). -/

namespace Sys2Proof.Machine

/-! ### Status codes (R181) -/

/-- The STATUS of a reply. -/
inductive Status where
  | ok
  | accepted
  | badType
  | badFormat
  | badKey
  | reservedKey
  | tooLong
  | notFound
  | keyHeld
  | dirFull
  | storeFull
  | noContext
  | badHandle
  | txnState
  | txnFull
  | poolFull
  | watchFull
  | queueFull
  | powerLow
  | readOnly
  | notReady
  | busy
  | isProtected
  | frozen
  | zoneOverlap
  | frozenPresent
  deriving DecidableEq, Repr

/-- The code of a status (R181). -/
def Status.code : Status → Byte
  | .ok => 0x00
  | .accepted => 0x01
  | .badType => 0x10
  | .badFormat => 0x11
  | .badKey => 0x12
  | .reservedKey => 0x13
  | .tooLong => 0x14
  | .notFound => 0x20
  | .keyHeld => 0x21
  | .dirFull => 0x22
  | .storeFull => 0x23
  | .noContext => 0x30
  | .badHandle => 0x31
  | .txnState => 0x32
  | .txnFull => 0x33
  | .poolFull => 0x34
  | .watchFull => 0x35
  | .queueFull => 0x40
  | .powerLow => 0x41
  | .readOnly => 0x42
  | .notReady => 0x43
  | .busy => 0x44
  | .isProtected => 0x50
  | .frozen => 0x51
  | .zoneOverlap => 0x52
  | .frozenPresent => 0x53

/-- The first check of a list that refuses decides the status; none passes them all (section 10.1). -/
def firstRefusal (checks : List (Option Status)) : Option Status :=
  checks.findSome? id

/-- A check that refuses with a status where its condition holds. -/
def refuseIf (condition : Bool) (status : Status) : Option Status :=
  if condition then some status else none

/-! ### Which step takes a request (section 10.9, R168; log entry 13) -/

/-- The request steps of the table. -/
inductive Row where
  | hello
  | stat
  | sectors
  | linkstat
  | readCommitted
  | readOwn
  | list
  | write
  | delete
  | begin
  | stage
  | unstage
  | commit
  | abort
  | txninfo
  | watchAdd
  | watchRemove
  | watchClear
  | notices
  | zones
  | zoneSetDefine
  | zoneSetClear
  | reclaim
  | format
  | badType
  deriving DecidableEq, Repr

/-- The step that takes a request, by its TYPE and, for READ, WATCH and ZONE_SET, its view or op byte. A request whose view or op byte
is missing or unassigned, which the format step refuses, is taken by READ_COMMITTED, WATCH_ADD or ZONE_SET_DEFINE (R183). -/
def Request.row (r : Request) : Row :=
  match r.typ.toNat with
  | 0x01 => .hello
  | 0x02 => .stat
  | 0x03 => .sectors
  | 0x04 => .linkstat
  | 0x10 => if r.payload[2]? = some 1 then .readOwn else .readCommitted
  | 0x11 => .list
  | 0x12 => .write
  | 0x13 => .delete
  | 0x20 => .begin
  | 0x21 => .stage
  | 0x22 => .unstage
  | 0x23 => .commit
  | 0x24 => .abort
  | 0x25 => .txninfo
  | 0x30 => if r.payload[0]? = some 1 then .watchRemove else if r.payload[0]? = some 2 then .watchClear else .watchAdd
  | 0x31 => .notices
  | 0x38 => .zones
  | 0x39 => if r.payload[1]? = some 1 then .zoneSetClear else .zoneSetDefine
  | 0x3A => .reclaim
  | 0x3F => .format
  | _ => .badType

/-! ### The format step (R168, R183) -/

/-- A request with no payload. -/
def parseEmpty : List Byte → Except Status Unit
  | [] => .ok ()
  | _ => .error .badFormat

/-- HELLO and NOTICES: a mask with its three high bits clear. -/
def parseMask : List Byte → Except Status (BitVec 5)
  | [m] => if m.extractLsb' 5 3 = 0 then .ok (m.extractLsb' 0 5) else .error .badFormat
  | _ => .error .badFormat

/-- LINKSTAT: link 0 or 1. -/
def parseLink : List Byte → Except Status Link
  | [l] => if l = 0 then .ok .link0 else if l = 1 then .ok .link1 else .error .badFormat
  | _ => .error .badFormat

/-- READ in view COMMITTED: 3 or 4 bytes; the handle is not examined. -/
def parseReadCommitted : List Byte → Except Status Key
  | [k1, k0, view] => if view = 0 then .ok (word16 k1 k0) else .error .badFormat
  | [k1, k0, view, _] => if view = 0 then .ok (word16 k1 k0) else .error .badFormat
  | _ => .error .badFormat

/-- READ in view OWN: 4 bytes, the last the handle. -/
def parseReadOwn : List Byte → Except Status (Key × Byte)
  | [k1, k0, view, h] => if view = 1 then .ok (word16 k1 k0, h) else .error .badFormat
  | _ => .error .badFormat

/-- LIST: start key and a max from 1 to 32. -/
def parseList : List Byte → Except Status (Key × Nat)
  | [k1, k0, m] => if 1 ≤ m.toNat ∧ m.toNat ≤ 32 then .ok (word16 k1 k0, m.toNat) else .error .badFormat
  | _ => .error .badFormat

/-- The value after a declared length (R168 step 3). -/
def parseValue (length : Nat) (value : List Byte) : Except Status (List Byte) :=
  if 256 < length then .error .tooLong else if value.length = length then .ok value else .error .badFormat

/-- WRITE: key, declared length, value. -/
def parseWrite : List Byte → Except Status (Key × List Byte)
  | k1 :: k0 :: l1 :: l0 :: value => (parseValue (word16 l1 l0).toNat value).map (fun v => (word16 k1 k0, v))
  | _ => .error .badFormat

/-- DELETE: a key. -/
def parseKey : List Byte → Except Status Key
  | [k1, k0] => .ok (word16 k1 k0)
  | _ => .error .badFormat

/-- BEGIN: a timeout of 0, which stands for 5000, or from 100 to 60000 ms (R25). -/
def parseBegin : List Byte → Except Status Nat
  | [t1, t0] =>
    let t := (word16 t1 t0).toNat
    if t = 0 then .ok 5000 else if 100 ≤ t ∧ t ≤ 60000 then .ok t else .error .badFormat
  | _ => .error .badFormat

/-- The change of a STAGE, from its kind byte and value (R27, R182). -/
def parseChange (kind : Byte) (value : List Byte) : Except Status Change :=
  if kind = 0 then .ok (.value value)
  else if kind = 1 ∧ value.length = 0 then .ok .delete
  else .error .badFormat

/-- STAGE: handle, key, kind, declared length, value. -/
def parseStage : List Byte → Except Status (Byte × Key × Change)
  | h :: k1 :: k0 :: kind :: l1 :: l0 :: value =>
    match parseValue (word16 l1 l0).toNat value with
    | .ok v => (parseChange kind v).map (fun c => (h, word16 k1 k0, c))
    | .error e => .error e
  | _ => .error .badFormat

/-- UNSTAGE: handle and key. -/
def parseHandleKey : List Byte → Except Status (Byte × Key)
  | [h, k1, k0] => .ok (h, word16 k1 k0)
  | _ => .error .badFormat

/-- COMMIT, ABORT and TXNINFO: a handle. -/
def parseHandle : List Byte → Except Status Byte
  | [h] => .ok h
  | _ => .error .badFormat

/-- WATCH with an op: op and key. -/
def parseWatch (op : Byte) : List Byte → Except Status Key
  | [o, k1, k0] => if o = op then .ok (word16 k1 k0) else .error .badFormat
  | _ => .error .badFormat

/-- A zone index from 0 to 7. -/
def parseIndex (i : Byte) : Except Status (Fin 8) :=
  if h : i.toNat < 8 then .ok ⟨i.toNat, h⟩ else .error .badFormat

/-- A yes/no field (R182). -/
def isYesNo (b : Byte) : Bool :=
  decide (b = 0) || decide (b = 1)

/-- ZONE_SET with op DEFINE (R136). -/
def parseZoneDefine : List Byte → Except Status (Fin 8 × Zone)
  | [i, op, l1, l0, h1, h0, w0, w1, g, f] =>
    if op = 0 ∧ (isYesNo w0 && isYesNo w1 && isYesNo g && isYesNo f) = true ∧ (word16 l1 l0).toNat ≤ (word16 h1 h0).toNat then
      (parseIndex i).map
        (fun x => (x, ⟨word16 l1 l0, word16 h1 h0, decide (w0 = 1), decide (w1 = 1), decide (g = 1), decide (f = 1)⟩))
    else .error .badFormat
  | _ => .error .badFormat

/-- ZONE_SET with op CLEAR (R136). -/
def parseZoneClear : List Byte → Except Status (Fin 8)
  | [i, op] => if op = 1 then parseIndex i else .error .badFormat
  | _ => .error .badFormat

/-! ### Key step (R1) -/

/-- An invalid key. -/
def invalidKey (k : Key) : Bool :=
  decide (k = 0x0000) || decide (k = 0xFFFF)

/-- A reserved key. -/
def reservedKey (k : Key) : Bool :=
  decide (0xFF00 ≤ k.toNat) && decide (k.toNat ≤ 0xFFFE)

/-- The key step of a request that needs a user key. -/
def userKeyStep (k : Key) : Option Status :=
  if invalidKey k then some .badKey else if reservedKey k then some .reservedKey else none

/-- The key step of UNSTAGE and WATCH, which a reserved key passes. -/
def anyKeyStep (k : Key) : Option Status :=
  refuseIf (invalidKey k) .badKey

/-! ### Store gate and supply step (R21, R145) -/

/-- The gate of the requests that READY and READ_ONLY let pass. -/
def readGate (store : Store) : Option Status :=
  match store with
  | .ready => none
  | .readOnly _ => none
  | _ => some .notReady

/-- The gate of the requests that READY alone admits. -/
def writeGate (store : Store) : Option Status :=
  match store with
  | .ready => none
  | .readOnly _ => some .readOnly
  | _ => some .notReady

/-- The gate of FORMAT. -/
def formatGate (store : Store) : Option Status :=
  match store with
  | .mounting => some .notReady
  | .formatting => some .busy
  | _ => none

/-- The supply step. -/
def supplyStep (s : Supply) : Option Status :=
  match s with
  | .normal => none
  | .low => some .powerLow

/-! ### Handle step (R24) -/

/-- The context index of a handle byte from 1 to 4. -/
def handleOf (b : Byte) : Option Handle :=
  if b = 1 then some 0 else if b = 2 then some 1 else if b = 3 then some 2 else if b = 4 then some 3 else none

/-- The context of a handle byte, where it is not FREE and the link owns it (R24). -/
def State.ownContext (s : State) (l : Link) (b : Byte) : Option (Handle × Context) :=
  match handleOf b with
  | some h => if (s.context h).owner = some l then some (h, s.context h) else none
  | none => none

/-- The handle step of TXNINFO and READ OWN, which a COMMITTING context passes. -/
def State.handleStep (s : State) (l : Link) (b : Byte) : Option Status :=
  refuseIf (s.ownContext l b).isNone .badHandle

/-- The context is COMMITTING. -/
def Context.isCommitting : Context → Bool
  | .committing .. => true
  | _ => false

/-- The handle step of STAGE, UNSTAGE, COMMIT and ABORT, which a COMMITTING context of the link ends with TXN_STATE. -/
def State.openHandleStep (s : State) (l : Link) (b : Byte) : Option Status :=
  match s.ownContext l b with
  | none => some .badHandle
  | some (_, c) => refuseIf c.isCommitting .txnState

/-- The idle timer of the context that a request names restarts, once the request has passed its format step (R38). -/
def State.touch (s : State) (l : Link) (b : Byte) : State :=
  match handleOf b with
  | some h => s.restartTimer l h
  | none => s

/-! ### Zone step (R133) -/

/-- A key lies in a zone. -/
def Zone.covers (z : Zone) (k : Key) : Bool :=
  decide (z.low.toNat ≤ k.toNat) && decide (k.toNat ≤ z.high.toNat)

/-- The zone a key lies in, if any (R131). -/
def zoneOf (table : ZoneTable) (k : Key) : Option Zone :=
  table.toList.findSome? (fun z => match z with
    | some zone => if zone.covers k then some zone else none
    | none => none)

/-- The write field of a zone for a link. -/
def Zone.writableBy (z : Zone) : Link → Bool
  | .link0 => z.link0Write
  | .link1 => z.link1Write

/-- The write check of a key for a link, with WP as sampled (R133). -/
def State.writeCheck (s : State) (l : Link) (wp : Wp) (k : Key) : Option Status :=
  match zoneOf s.zones k with
  | none => none
  | some z =>
    if z.frozen then some .frozen
    else if !z.writableBy l then some .isProtected
    else if z.guarded && decide (wp = .asserted) then some .isProtected
    else none

/-- The key's entry is LIVE. -/
def State.isLive (s : State) (k : Key) : Bool :=
  (s.lookup k).any (fun e => e.state == .live)

/-- Directory slots that a VALUE of this key would take: 1 when it is absent (R15). -/
def State.slotsFor (s : State) (k : Key) : Nat :=
  if (s.lookup k).isNone then 1 else 0

/-- The queue step (R66). -/
def State.queueStep (s : State) : Option Status :=
  refuseIf s.queueFull .queueFull

end Sys2Proof.Machine
end

