-- ==== Sys2Proof/Machine/Executor.lean ====
section
/-! DEFINITION. The request executor: its choice between the links, the taking of a request, and the reply (R159 to R162, R169). -/

namespace Sys2Proof.Machine

/-- A reply: its STATUS and the fields after it (R184). -/
structure Reply where
  status : Status
  fields : List Byte
  deriving DecidableEq, Repr

/-- A refusal's reply: the STATUS alone (R169). -/
def refused (status : Status) : Reply :=
  ⟨status, []⟩

/-- The reply of an accepted job: ACCEPTED and its ticket (R69). -/
def acceptedReply (ticket : Ticket) : Reply :=
  ⟨.accepted, be16 ticket⟩

/-- The link whose request the executor takes (R161): of two links with requests the one the pointer does not name. -/
def State.nextLink (s : State) : Option Link :=
  match s.lf0.fifo, s.lf1.fifo with
  | [], [] => none
  | _ :: _, [] => some .link0
  | [], _ :: _ => some .link1
  | _ :: _, _ :: _ => some (otherLink s.lastServed)

/-- The request the executor takes next: the head of that link's FIFO (R160, R161). -/
def State.nextRequest (s : State) : Option (Link × Request) :=
  match s.nextLink with
  | none => none
  | some l => match (s.link l).fifo with
    | r :: _ => some (l, r)
    | [] => none

/-- The executor takes the head request of a link: it leaves the FIFO and is in service; the pointer names the link (R160, R161). -/
def State.take (s : State) (l : Link) (r : Request) : State :=
  { s.modLink l (fun f => { f with fifo := f.fifo.tail, inService := some r }) with lastServed := l }

/-- The reply frame of a request (R162, R168). -/
def Request.replyFrame (r : Request) (reply : Reply) : Frame where
  tag := r.tag
  typ := replyType r.typ
  payload := reply.status.code :: reply.fields

/-- The reply is queued: it takes a slot in place of its reservation, the retry cache is replaced, and the executor is free (R159,
R162). -/
def Framer.reply (f : Framer) (r : Request) (frame : Frame) : Framer :=
  { f with
    out := f.out ++ [frame]
    reservations := f.reservations - 1
    retry := some ⟨r.tag, r.typ, frame⟩
    inService := none }

/-- The executor queues the reply of the request in service. -/
def State.reply (s : State) (l : Link) (r : Request) (reply : Reply) : State :=
  s.modLink l (fun f => f.reply r (r.replyFrame reply))

/-- One step of the executor: it takes the next request, acts on it and queues its reply. It waits where no request waits, and where
the next request is one that another step takes (log entry 13). -/
def State.serve (s : State) (row : Row) (act : Link → Request → State → State × Reply) : State :=
  s.unlessHeld (fun t => match t.nextRequest with
    | none => t
    | some (l, r) =>
      if r.row = row then
        let done := act l r (t.take l r)
        done.1.reply l r done.2
      else t)

/-- A request with a parsed payload: a payload the format step refuses ends it with that status and no effect (R168, R169). -/
def withFormat {α : Type} (parsed : Except Status α) (s : State) (act : α → State × Reply) : State × Reply :=
  match parsed with
  | .error e => (s, refused e)
  | .ok a => act a

/-- A request that changes nothing where one of its checks refuses it (R169). -/
def withChecks (checks : List (Option Status)) (s : State) (act : State × Reply) : State × Reply :=
  match firstRefusal checks with
  | some e => (s, refused e)
  | none => act

end Sys2Proof.Machine
end

