-- ==== Sys2Proof/Machine/Info.lean ====
section
/-! DEFINITION. Session and information requests: HELLO, STAT, SECTORS, LINKSTAT, NOTICES and BAD_TYPE (R166 to R172, R178). -/

namespace Sys2Proof.Machine

/-! ### HELLO (R47, R166, R167) -/

/-- The OPEN contexts of a link. -/
def State.openContexts (s : State) (l : Link) : List Handle :=
  allHandles.filter (fun h => (s.context h).openFor l)

/-- A frame that a HELLO keeps in its slot: a reply or a JOB_DONE (R166). -/
def keptByHello (f : Frame) : Bool :=
  !f.isNotice || f.isJobDone

/-- The outbound queue after a HELLO: notices are discarded, except JOB_DONE notices and a notice whose first byte has gone out (R164,
R166). Model's choice: a first byte has gone out once it is complete, so a head notice whose first byte is still shifting out is discarded
(log entry 34). -/
def Framer.keptFrames (f : Framer) : List Frame :=
  match f.out with
  | [] => []
  | head :: rest => (if keptByHello head || decide (0 < f.sent) then [head] else []) ++ rest.filter keptByHello

/-- The effects of a HELLO on its link framer (R166): the freed slots are taken by the backlog, under the new sequence (log entry
14). -/
def Framer.hello (f : Framer) (mask : BitVec 5) : Framer :=
  ({ f with
    watches := []
    out := f.keptFrames
    sequence := 0
    lost := 0
    mask := mask
    retry := none }).drainBacklog

/-- Part geometry of the HELLO reply (R167, R184). -/
def helloGeometry : List Byte :=
  [32] ++ be16Nat 256 ++ [16] ++ be16Nat Config.directoryCapacity ++ be16Nat 256 ++ [4] ++ be16Nat Config.poolUnits

/-- The HELLO reply (R167, R184). -/
def State.helloReply (s : State) (aborted : Nat) : Reply :=
  ⟨.ok, be16 Config.vendorCode ++ be16 Config.partCode ++ [Config.revision] ++ helloGeometry ++ [s.store.code]
    ++ be32 s.generationNext ++ be32 s.epoch ++ [byteOf aborted]⟩

/-- The effects of a HELLO from a link. -/
def State.hello (s : State) (l : Link) (mask : BitVec 5) : State :=
  ((s.openContexts l).foldl State.freeContext s).modLink l (fun f => f.hello mask)

/-- HELLO. -/
def execHello (s : State) : Host.Outcome State Fault Refusal :=
  .next (s.serve .hello (fun l r t => withFormat (parseMask r.payload) t (fun mask =>
    (t.hello l mask, (t.hello l mask).helloReply (t.openContexts l).length))))

/-! ### STAT, SECTORS, LINKSTAT (R170 to R172) -/

/-- Engine state codes (R182). -/
def Engine.code : Engine → Byte
  | .mounting => 0
  | .idle => 1
  | .running => 2
  | .folding => 3
  | .reclaiming _ => 4
  | .paused => 5

/-- Reclaim mode codes; none unless the engine is RECLAIMING (R170, R182). -/
def Engine.modeCode : Engine → Byte
  | .reclaiming .background => 1
  | .reclaiming .urgent => 2
  | _ => 0

/-- Reclaim phase codes (R182). -/
def PassPhase.code : PassPhase → Byte
  | .marking => 1
  | .copying _ => 2
  | .erasing => 3
  | .preparing => 4

/-- A sector number, 0xFF for none (R182). -/
def sectorCode : Option Sector → Byte
  | some x => byteOf x.val
  | none => 0xFF

/-- Sector state codes (R182). -/
def SectorState.code : SectorState → Byte
  | .unscanned => 0
  | .unprepared => 1
  | .erased => 2
  | .opened _ _ => 3
  | .full _ => 4
  | .victim _ => 5
  | .retired => 6

/-- WP codes (R182). -/
def wpCode : Wp → Byte
  | .deasserted => 0
  | .asserted => 1

/-- The phase of the reclaim context as reported (R93). -/
def State.phaseCode (s : State) : Byte :=
  match s.pass with
  | some p => p.phase.code
  | none => 0

/-- The STAT reply, read in one event (R170, R184). -/
def State.statReply (s : State) (wp : Wp) : Reply :=
  ⟨.ok, [s.store.code, s.store.causeCode] ++ be16Nat s.liveLines ++ be16Nat s.reservedLines ++ be16Nat s.staleLines
    ++ be16Nat s.freeLines ++ be16Nat s.liveCapacity ++ be16Nat s.directory.length ++ be16Nat s.slotReservations
    ++ be16Nat s.poolFree
    ++ [byteOf s.queue.length, s.engine.code, s.engine.modeCode, byteOf s.marks.length,
        sectorCode (s.openSector.map (·.1)), sectorCode s.reserveSector, s.phaseCode, sectorCode (s.pass.map (·.victim)),
        supplyCode s.supply, wpCode wp]⟩

/-- STAT. -/
def execStat (wp : Wp) (s : State) : Host.Outcome State Fault Refusal :=
  .next (s.serve .stat (fun _ r t => withFormat (parseEmpty r.payload) t (fun _ => (t, t.statReply wp))))

/-- One sector record of the SECTORS reply (R171, R184). -/
def SectorRecord.report (r : SectorRecord) : List Byte :=
  [r.state.code] ++ be32 r.eraseCount ++ [byteOf r.live, byteOf r.stale, byteOf r.free]

/-- SECTORS. -/
def execSectors (s : State) : Host.Outcome State Fault Refusal :=
  .next (s.serve .sectors (fun _ r t => withFormat (parseEmpty r.payload) t (fun _ =>
    (t, ⟨.ok, t.sectors.toList.flatMap SectorRecord.report⟩))))

/-- The number of a link (R182). -/
def linkCode : Link → Byte
  | .link0 => 0
  | .link1 => 1

/-- The LINKSTAT reply for a link (R172, R184). -/
def State.linkstatReply (s : State) (l : Link) : Reply :=
  let f := s.link l
  ⟨.ok, [linkCode l] ++ be32 f.goodFrames ++ be32 f.checkErrors ++ be32 f.cutFrames ++ be32 f.dropped ++ be32 f.lostNotices
    ++ [byteOf f.watches.length, f.mask.setWidth 8]⟩

/-- LINKSTAT. -/
def execLinkstat (s : State) : Host.Outcome State Fault Refusal :=
  .next (s.serve .linkstat (fun _ r t => withFormat (parseLink r.payload) t (fun named => (t, t.linkstatReply named))))

/-! ### NOTICES and unknown requests (R168, R178) -/

/-- NOTICES. -/
def execNotices (s : State) : Host.Outcome State Fault Refusal :=
  .next (s.serve .notices (fun l r t => withFormat (parseMask r.payload) t (fun mask =>
    (t.modLink l (fun f => { f with mask := mask }), ⟨.ok, []⟩))))

/-- BAD_TYPE: a request with an unknown TYPE (R168). -/
def execBadType (s : State) : Host.Outcome State Fault Refusal :=
  .next (s.serve .badType (fun _ _ t => (t, refused .badType)))

end Sys2Proof.Machine
end

