-- ==== Sys2Proof/Machine/Records.lean ====
section
/-! DEFINITION. Record requests: READ in both views, LIST, WRITE and DELETE (R8, R9, R45, R173 to R176). -/

namespace Sys2Proof.Machine

/-! ### READ (R8, R45, R173) -/

/-- The fields of a READ reply with STATUS OK (R184). -/
def readFields (generation : Gen) (flags : Byte) (value : List Byte) : List Byte :=
  be32 generation ++ [flags] ++ be16Nat value.length ++ value

/-- The committed view of a key (R8). -/
def State.readCommitted (s : State) (k : Key) : Reply :=
  match s.lookup k with
  | some e =>
    if e.state = .live then ⟨.ok, readFields e.generation 0 (s.array.readValue e.loc e.length)⟩ else refused .notFound
  | none => refused .notFound

/-- READ_COMMITTED. -/
def execReadCommitted (s : State) : Host.Outcome State Fault Refusal :=
  .next (s.serve .readCommitted (fun _ r t => withFormat (parseReadCommitted r.payload) t (fun k =>
    withChecks [userKeyStep k, readGate t.store] t (t, t.readCommitted k))))

/-- The staged entry of a key in a list. -/
def stagedEntry (entries : List Staged) (k : Key) : Option Staged :=
  entries.find? (fun e => e.key == k)

/-- The OWN view of a key over a staged list (R45): flag bit 0 is STAGED, bit 1 STAGED_DELETE (R182). -/
def State.readOwn (s : State) (entries : List Staged) (k : Key) : Reply :=
  match stagedEntry entries k with
  | some e => match e.change with
    | .value bytes => ⟨.ok, readFields (e.base.getD 0) 1 bytes⟩
    | .delete => ⟨.notFound, [2]⟩
  | none => s.readCommitted k

/-- The staged list of the context that a link names. -/
def State.ownStaged (s : State) (l : Link) (h : Byte) : List Staged :=
  match s.ownContext l h with
  | some (_, c) => c.staged
  | none => []

/-- READ_OWN. -/
def execReadOwn (s : State) : Host.Outcome State Fault Refusal :=
  .next (s.serve .readOwn (fun l r t => withFormat (parseReadOwn r.payload) t (fun p =>
    withChecks [userKeyStep p.1, readGate t.store, t.handleStep l p.2] (t.touch l p.2)
      (t.touch l p.2, t.readOwn (t.ownStaged l p.2) p.1))))

/-! ### LIST (R9, R174) -/

/-- The LIVE user entries from a start key on, in key order. -/
def State.listed (s : State) (start : Key) : List DirEntry :=
  s.directory.filter (fun e =>
    decide (start.toNat ≤ e.key.toNat) && decide (e.state = .live) && decide (e.key.toNat ≤ 0xFEFF))

/-- One entry of a LIST reply (R184). -/
def DirEntry.report (e : DirEntry) : List Byte :=
  be16 e.key ++ be16Nat e.length ++ be32 e.generation

/-- The next key of a LIST reply; 0x0000 for none, and when the count is 0 (R9, R174). -/
def nextKeyOf (rest : List DirEntry) : Key :=
  match rest with
  | e :: _ => e.key
  | [] => 0

/-- The LIST reply (R9, R184). -/
def State.listReply (s : State) (start : Key) (max : Nat) : Reply :=
  let found := (s.listed start).take max
  ⟨.ok, [byteOf found.length] ++ found.flatMap DirEntry.report ++ be16 (nextKeyOf ((s.listed start).drop max))⟩

/-- LIST. -/
def execList (s : State) : Host.Outcome State Fault Refusal :=
  .next (s.serve .list (fun _ r t => withFormat (parseList r.payload) t (fun p =>
    withChecks [userKeyStep p.1, readGate t.store] t (t, t.listReply p.1 p.2))))

/-! ### WRITE and DELETE (R33, R69, R175, R176) -/

/-- The checks of WRITE after its format step, in order (R175). -/
def State.writeChecks (s : State) (l : Link) (wp : Wp) (k : Key) (value : List Byte) : List (Option Status) :=
  [userKeyStep k, writeGate s.store, supplyStep s.supply, s.writeCheck l wp k,
    refuseIf (s.holder k).isSome .keyHeld,
    refuseIf (s.lacksLines (valueLines value.length)) .storeFull,
    refuseIf (s.lacksSlots (s.slotsFor k)) .dirFull,
    refuseIf (decide (s.poolFree < unitsOf value.length)) .poolFull,
    s.queueStep]

/-- The acceptance of a SOLO_WRITE (R69): the job's ticket holds the key, and the value's units are taken. -/
def State.acceptWrite (s : State) (l : Link) (k : Key) (value : List Byte) : State :=
  ({ s with poolFree := s.poolFree - unitsOf value.length }.takeHold k (.job s.nextTicket)).acceptJob (.soloWrite k value) l
    (valueLines value.length) (s.slotsFor k)

/-- WRITE. -/
def execWrite (wp : Wp) (s : State) : Host.Outcome State Fault Refusal :=
  .next (s.serve .write (fun l r t => withFormat (parseWrite r.payload) t (fun p =>
    withChecks (t.writeChecks l wp p.1 p.2) t (t.acceptWrite l p.1 p.2, acceptedReply t.nextTicket))))

/-- The checks of DELETE after its format step, in order (R176). -/
def State.deleteChecks (s : State) (l : Link) (wp : Wp) (k : Key) : List (Option Status) :=
  [userKeyStep k, writeGate s.store, supplyStep s.supply, s.writeCheck l wp k,
    refuseIf (s.holder k).isSome .keyHeld,
    refuseIf (!s.isLive k) .notFound,
    refuseIf (s.lacksLines 1) .storeFull,
    s.queueStep]

/-- The acceptance of a SOLO_DELETE (R69, R176). -/
def State.acceptDelete (s : State) (l : Link) (k : Key) : State :=
  (s.takeHold k (.job s.nextTicket)).acceptJob (.soloDelete k) l 1 0

/-- DELETE. -/
def execDelete (wp : Wp) (s : State) : Host.Outcome State Fault Refusal :=
  .next (s.serve .delete (fun l r t => withFormat (parseKey r.payload) t (fun k =>
    withChecks (t.deleteChecks l wp k) t (t.acceptDelete l k, acceptedReply t.nextTicket))))

end Sys2Proof.Machine
end

