-- ==== Sys2Proof/Machine/Transactions.lean ====
section
/-! DEFINITION. Transaction requests: BEGIN, STAGE, UNSTAGE, COMMIT, ABORT and TXNINFO (R23 to R46). A request that names a handle
restarts the timer of its context once it has passed its format step, whatever its later outcome (R38). -/

namespace Sys2Proof.Machine

/-! ### BEGIN (R25) -/

/-- The FREE context with the lowest handle. -/
def State.lowestFree (s : State) : Option Handle :=
  allHandles.find? (fun h => decide (s.context h = .free))

/-- BEGIN after its gate: the lowest FREE context becomes OPEN with its timer at 0, or NO_CONTEXT (R25). -/
def State.begin (s : State) (l : Link) (timeout : Nat) : State × Reply :=
  match s.lowestFree with
  | some h => (s.setContext h (.opened l timeout 0 []), ⟨.ok, [handleCode h]⟩)
  | none => (s, refused .noContext)

/-- BEGIN. -/
def execBegin (s : State) : Host.Outcome State Fault Refusal :=
  .next (s.serve .begin (fun l r t => withFormat (parseBegin r.payload) t (fun timeout =>
    withChecks [readGate t.store] t (t.begin l timeout))))

/-! ### STAGE (R27 to R30) -/

/-- The staged list of the context that a handle byte names, whatever its owner. -/
def State.namedStaged (s : State) (b : Byte) : List Staged :=
  match handleOf b with
  | some h => (s.context h).staged
  | none => []

/-- A key may be staged into a context: it has no holder, or its holder is this context (R27). -/
def State.stageable (s : State) (b : Byte) (k : Key) : Bool :=
  match s.holder k, handleOf b with
  | none, _ => true
  | some (.context g), some h => decide (g = h)
  | some _, _ => false

/-- A deletion needs the key to be LIVE in the directory (R30). -/
def State.presenceStep (s : State) (k : Key) (c : Change) : Option Status :=
  match c with
  | .value _ => none
  | .delete => refuseIf (!s.isLive k) .notFound

/-- Units that the entry of a key in a list gives back when it is replaced (R29). -/
def ownUnits (entries : List Staged) (k : Key) : Nat :=
  match stagedEntry entries k with
  | some e => e.change.units
  | none => 0

/-- The list room step (R27). -/
def roomStep (entries : List Staged) (k : Key) : Option Status :=
  refuseIf ((stagedEntry entries k).isNone && decide (Config.listCapacity ≤ entries.length)) .txnFull

/-- The checks of STAGE after its format step, in order (R27). -/
def State.stageChecks (s : State) (l : Link) (wp : Wp) (b : Byte) (k : Key) (c : Change) : List (Option Status) :=
  [userKeyStep k, readGate s.store, s.openHandleStep l b, s.writeCheck l wp k,
    refuseIf (!s.stageable b k) .keyHeld,
    s.presenceStep k c,
    roomStep (s.namedStaged b) k,
    refuseIf (decide (s.poolFree + ownUnits (s.namedStaged b) k < c.units)) .poolFull]

/-- Replace the entry of a key where it stands, or append an entry (R28, R29). -/
def placeStaged (e : Staged) (entries : List Staged) : List Staged :=
  if (stagedEntry entries e.key).isSome then entries.map (fun d => if d.key == e.key then e else d) else entries ++ [e]

/-- Give an OPEN context a staged list. -/
def Context.withStaged (c : Context) (entries : List Staged) : Context :=
  match c with
  | .opened o t idle _ => .opened o t idle entries
  | .committing o t _ ticket => .committing o t entries ticket
  | .free => .free

/-- The staged list after a change of a key (R28, R29): the base generation is that of the key's entry, LIVE or DELETED. -/
def State.stagedAfter (s : State) (h : Handle) (k : Key) (c : Change) : List Staged :=
  placeStaged ⟨k, c, (s.lookup k).map (·.generation)⟩ (s.context h).staged

/-- A taken STAGE (R28, R29): the entry enters the list, the pool gives the new units and takes back the old ones, and the context
holds the key. -/
def State.stage (s : State) (h : Handle) (k : Key) (c : Change) : State :=
  let paid := { s with poolFree := s.poolFree + ownUnits (s.context h).staged k - c.units }
  (paid.takeHold k (.context h)).setContext h ((s.context h).withStaged (s.stagedAfter h k c))

/-- The reply of a taken STAGE: the entry count and the free units after the request (R27). -/
def State.stageReply (s : State) (h : Handle) : Reply :=
  ⟨.ok, [byteOf (s.context h).staged.length] ++ be16Nat s.poolFree⟩

/-- STAGE after its checks, which leave the handle one of the four. -/
def State.stageAt (s : State) (b : Byte) (k : Key) (c : Change) : State × Reply :=
  match handleOf b with
  | some h => (s.stage h k c, (s.stage h k c).stageReply h)
  | none => (s, refused .badHandle)

/-- STAGE. -/
def execStage (wp : Wp) (s : State) : Host.Outcome State Fault Refusal :=
  .next (s.serve .stage (fun l r t => withFormat (parseStage r.payload) t (fun p =>
    withChecks (t.stageChecks l wp p.1 p.2.1 p.2.2) (t.touch l p.1) ((t.touch l p.1).stageAt p.1 p.2.1 p.2.2))))

/-! ### UNSTAGE (R36) -/

/-- The checks of UNSTAGE after its format step, in order (R36). -/
def State.unstageChecks (s : State) (l : Link) (b : Byte) (k : Key) : List (Option Status) :=
  [anyKeyStep k, readGate s.store, s.openHandleStep l b, refuseIf (stagedEntry (s.namedStaged b) k).isNone .notFound]

/-- A taken UNSTAGE (R36): the entry leaves the list, its units return, and the key is released. -/
def State.unstage (s : State) (h : Handle) (k : Key) : State :=
  let entries := (s.context h).staged
  let repaid := { s with poolFree := s.poolFree + ownUnits entries k }
  (repaid.releaseKey k).setContext h ((s.context h).withStaged (entries.filter (fun e => !(e.key == k))))

/-- UNSTAGE after its checks: the reply gives the number of entries left (R36). -/
def State.unstageAt (s : State) (b : Byte) (k : Key) : State × Reply :=
  match handleOf b with
  | some h => (s.unstage h k, ⟨.ok, [byteOf ((s.unstage h k).context h).staged.length]⟩)
  | none => (s, refused .badHandle)

/-- UNSTAGE. -/
def execUnstage (s : State) : Host.Outcome State Fault Refusal :=
  .next (s.serve .unstage (fun l r t => withFormat (parseHandleKey r.payload) t (fun p =>
    withChecks (t.unstageChecks l p.1 p.2) (t.touch l p.1) ((t.touch l p.1).unstageAt p.1 p.2))))

/-! ### COMMIT (R41 to R43) -/

/-- Gross new lines of a commit: each entry's image, and a MARK line for two entries or more (R15). -/
def commitLines (entries : List Staged) : Nat :=
  (entries.map (fun e => match e.change with
    | .value bytes => valueLines bytes.length
    | .delete => 1)).sum + (if 2 ≤ entries.length then 1 else 0)

/-- New directory slots of a commit: its VALUE entries whose keys are absent (R15, R41). -/
def State.commitSlots (s : State) (entries : List Staged) : Nat :=
  (entries.map (fun e => match e.change with
    | .value _ => s.slotsFor e.key
    | .delete => 0)).sum

/-- The zone recheck of a commit: the first entry in list order that fails decides (R41, R134). -/
def State.zoneRecheck (s : State) (l : Link) (wp : Wp) (entries : List Staged) : Option Status :=
  entries.findSome? (fun e => s.writeCheck l wp e.key)

/-- Steps 2 to 4 of COMMIT (R41). -/
def State.commitFirstChecks (s : State) (l : Link) (b : Byte) : List (Option Status) :=
  [match s.store with
    | .readOnly _ => none
    | store => readGate store,
    s.openHandleStep l b]

/-- Steps 6 to 11 of COMMIT (R41). -/
def State.commitChecks (s : State) (l : Link) (wp : Wp) (entries : List Staged) : List (Option Status) :=
  [supplyStep s.supply, writeGate s.store, s.zoneRecheck l wp entries,
    refuseIf (s.lacksLines (commitLines entries)) .storeFull,
    refuseIf (s.lacksSlots (s.commitSlots entries)) .dirFull,
    s.queueStep]

/-- The context becomes COMMITTING and records its ticket; its timer stops (R43). -/
def Context.committed (c : Context) (ticket : Ticket) : Context :=
  match c with
  | .opened o t _ entries => .committing o t entries ticket
  | other => other

/-- The acceptance of a COMMIT (R43, R69). -/
def State.acceptCommit (s : State) (l : Link) (h : Handle) : State :=
  let entries := (s.context h).staged
  (s.setContext h ((s.context h).committed s.nextTicket)).acceptJob (.commit h) l (commitLines entries) (s.commitSlots entries)

/-- COMMIT from step 5: an empty list frees the context with OK and no job (R42); otherwise its remaining steps and the job. -/
def State.commitAt (s : State) (l : Link) (wp : Wp) (b : Byte) : State × Reply :=
  match handleOf b with
  | some h =>
    if (s.context h).staged.isEmpty then (s.freeContext h, ⟨.ok, []⟩)
    else withChecks (s.commitChecks l wp (s.context h).staged) s (s.acceptCommit l h, acceptedReply s.nextTicket)
  | none => (s, refused .badHandle)

/-- COMMIT. -/
def execCommit (wp : Wp) (s : State) : Host.Outcome State Fault Refusal :=
  .next (s.serve .commit (fun l r t => withFormat (parseHandle r.payload) t (fun b =>
    withChecks (t.commitFirstChecks l b) (t.touch l b) ((t.touch l b).commitAt l wp b))))

/-! ### ABORT (R37) -/

/-- ABORT after its checks: the context becomes FREE. -/
def State.abortAt (s : State) (b : Byte) : State × Reply :=
  match handleOf b with
  | some h => (s.freeContext h, ⟨.ok, []⟩)
  | none => (s, refused .badHandle)

/-- ABORT. -/
def execAbort (s : State) : Host.Outcome State Fault Refusal :=
  .next (s.serve .abort (fun l r t => withFormat (parseHandle r.payload) t (fun b =>
    withChecks [readGate t.store, t.openHandleStep l b] (t.touch l b) ((t.touch l b).abortAt b))))

/-! ### TXNINFO (R46) -/

/-- The kind byte and length of a change (R182). -/
def Change.report : Change → List Byte
  | .value bytes => [0] ++ be16Nat bytes.length
  | .delete => [1] ++ be16Nat 0

/-- The base generation of a staged entry as reported (R184). -/
def baseReport : Option Gen → List Byte
  | some g => [1] ++ be32 g
  | none => [0] ++ be32 0

/-- A staged entry of the TXNINFO reply (R184). -/
def Staged.report (e : Staged) : List Byte :=
  be16 e.key ++ e.change.report ++ baseReport e.base

/-- The state code, the timeout and the elapsed idle time of a context: idle is 0 in COMMITTING (R46, R182). -/
def Context.report : Context → List Byte
  | .free => []
  | .opened _ t idle _ => [1] ++ be16Nat t ++ be16Nat idle
  | .committing _ t _ _ => [2] ++ be16Nat t ++ be16Nat 0

/-- The TXNINFO reply (R46, R184). -/
def Context.txninfo (c : Context) : Reply :=
  ⟨.ok, c.report ++ [byteOf c.staged.length] ++ c.staged.flatMap Staged.report⟩

/-- The TXNINFO reply of the context a handle byte names. -/
def State.txninfoAt (s : State) (b : Byte) : Reply :=
  match handleOf b with
  | some h => (s.context h).txninfo
  | none => refused .badHandle

/-- TXNINFO: the timer is read before it restarts (R46). -/
def execTxninfo (s : State) : Host.Outcome State Fault Refusal :=
  .next (s.serve .txninfo (fun l r t => withFormat (parseHandle r.payload) t (fun b =>
    withChecks [readGate t.store, t.handleStep l b] (t.touch l b) (t.touch l b, t.txninfoAt b))))

end Sys2Proof.Machine
end

