-- ==== Sys2Proof/Machine/Watches.lean ====
section
/-! DEFINITION. Watch requests: WATCH_ADD, WATCH_REMOVE and WATCH_CLEAR (R177, R190 to R192). -/

namespace Sys2Proof.Machine

/-- Give a link a watch table. -/
def State.setWatches (s : State) (l : Link) (keys : List Key) : State :=
  s.modLink l (fun f => { f with watches := keys })

/-- The reply of a taken WATCH: the number of keys after the request (R177). -/
def watchReply (keys : List Key) : Reply :=
  ⟨.ok, [byteOf keys.length]⟩

/-- ADD on a watch table (R191): the test for presence comes first. -/
def State.addWatch (s : State) (l : Link) (k : Key) : State × Reply :=
  let keys := (s.link l).watches
  if keys.contains k then (s, watchReply keys)
  else if keys.length < Config.watchCapacity then (s.setWatches l (keys ++ [k]), watchReply (keys ++ [k]))
  else (s, refused .watchFull)

/-- WATCH_ADD. -/
def execWatchAdd (s : State) : Host.Outcome State Fault Refusal :=
  .next (s.serve .watchAdd (fun l r t => withFormat (parseWatch 0 r.payload) t (fun k =>
    withChecks [anyKeyStep k, readGate t.store] t (t.addWatch l k))))

/-- REMOVE on a watch table (R192). -/
def State.removeWatch (s : State) (l : Link) (k : Key) : State × Reply :=
  let keys := (s.link l).watches
  if keys.contains k then
    (s.setWatches l (keys.filter (fun j => !(j == k))), watchReply (keys.filter (fun j => !(j == k))))
  else (s, refused .notFound)

/-- WATCH_REMOVE. -/
def execWatchRemove (s : State) : Host.Outcome State Fault Refusal :=
  .next (s.serve .watchRemove (fun l r t => withFormat (parseWatch 1 r.payload) t (fun k =>
    withChecks [anyKeyStep k, readGate t.store] t (t.removeWatch l k))))

/-- WATCH_CLEAR: the key field is not examined (R192). -/
def execWatchClear (s : State) : Host.Outcome State Fault Refusal :=
  .next (s.serve .watchClear (fun l r t => withFormat (parseWatch 2 r.payload) t (fun _ =>
    withChecks [readGate t.store] t (t.setWatches l [], watchReply []))))

end Sys2Proof.Machine
end

