-- ==== Sys2Proof/Machine/StoreJobs.lean ====
section
/-! DEFINITION. Zone requests and store-wide jobs: ZONES, ZONE_SET_DEFINE, ZONE_SET_CLEAR, RECLAIM and FORMAT (R136, R137, R141, R179,
R180). -/

namespace Sys2Proof.Machine

/-! ### ZONES (R141) -/

/-- The fields of a zone in the ZONES reply after its index (R184); an undefined zone reads 0. -/
def zoneFields : Option Zone → List Byte
  | none => [0, 0, 0, 0, 0, 0, 0]
  | some z =>
    [1] ++ be16 z.low ++ be16 z.high
      ++ [(if z.link0Write then 1 else 0) ||| (if z.link1Write then 2 else 0),
          (if z.guarded then 1 else 0) ||| (if z.frozen then 2 else 0)]

/-- The ZONES reply (R141, R184). -/
def State.zonesReply (s : State) : Reply :=
  ⟨.ok, (List.finRange 8).flatMap (fun i => byteOf i.val :: zoneFields s.zones[i])⟩

/-- ZONES. -/
def execZones (s : State) : Host.Outcome State Fault Refusal :=
  .next (s.serve .zones (fun _ r t => withFormat (parseEmpty r.payload) t (fun _ =>
    withChecks [readGate t.store] t (t, t.zonesReply))))

/-! ### ZONE_SET (R136, R137) -/

/-- The key step of DEFINE on both keys: an invalid key is found before a reserved one (R136). -/
def zoneKeyStep (z : Zone) : Option Status :=
  if invalidKey z.low || invalidKey z.high then some .badKey
  else if reservedKey z.low || reservedKey z.high then some .reservedKey
  else none

/-- The zone at an index is FROZEN. -/
def State.frozenAt (s : State) (i : Fin 8) : Bool :=
  match s.zones[i] with
  | some z => z.frozen
  | none => false

/-- A range meets a defined zone at another index (R131). -/
def State.overlapsOther (s : State) (i : Fin 8) (z : Zone) : Bool :=
  (List.finRange 8).any (fun j => decide (j ≠ i) && (match s.zones[j] with
    | some w => z.overlaps w
    | none => false))

/-- Steps 3 to 7 of ZONE_SET (R136). -/
def State.zoneSetGate (s : State) (wp : Wp) (i : Fin 8) : List (Option Status) :=
  [writeGate s.store, supplyStep s.supply,
    refuseIf s.zoneUpdateOutstanding .busy,
    refuseIf (s.frozenAt i) .frozen,
    refuseIf (decide (wp = .asserted)) .isProtected]

/-- Steps 9 to 11 of ZONE_SET (R136). -/
def State.zoneSetResources (s : State) : List (Option Status) :=
  [refuseIf (s.lacksLines 5) .storeFull, refuseIf (s.lacksSlots (s.slotsFor Config.zoneKey)) .dirFull, s.queueStep]

/-- The acceptance of a ZONE_SET (R137): the new table changes the zone at the index alone. -/
def State.acceptZoneSet (s : State) (l : Link) (i : Fin 8) (z : Option Zone) : State :=
  s.acceptJob (.zoneUpdate (s.zones.set i z)) l 5 (s.slotsFor Config.zoneKey)

/-- The checks of ZONE_SET with op DEFINE after its format step, in order (R136). -/
def State.zoneDefineChecks (s : State) (wp : Wp) (i : Fin 8) (z : Zone) : List (Option Status) :=
  [zoneKeyStep z] ++ s.zoneSetGate wp i ++ [refuseIf (s.overlapsOther i z) .zoneOverlap] ++ s.zoneSetResources

/-- ZONE_SET_DEFINE. -/
def execZoneSetDefine (wp : Wp) (s : State) : Host.Outcome State Fault Refusal :=
  .next (s.serve .zoneSetDefine (fun l r t => withFormat (parseZoneDefine r.payload) t (fun p =>
    withChecks (t.zoneDefineChecks wp p.1 p.2) t (t.acceptZoneSet l p.1 (some p.2), acceptedReply t.nextTicket))))

/-- The checks of ZONE_SET with op CLEAR after its format step, in order (R136). -/
def State.zoneClearChecks (s : State) (wp : Wp) (i : Fin 8) : List (Option Status) :=
  s.zoneSetGate wp i ++ s.zoneSetResources

/-- ZONE_SET_CLEAR. -/
def execZoneSetClear (wp : Wp) (s : State) : Host.Outcome State Fault Refusal :=
  .next (s.serve .zoneSetClear (fun l r t => withFormat (parseZoneClear r.payload) t (fun i =>
    withChecks (t.zoneClearChecks wp i) t (t.acceptZoneSet l i none, acceptedReply t.nextTicket))))

/-! ### RECLAIM and FORMAT (R179, R180) -/

/-- RECLAIM. -/
def execReclaim (s : State) : Host.Outcome State Fault Refusal :=
  .next (s.serve .reclaim (fun l r t => withFormat (parseEmpty r.payload) t (fun _ =>
    withChecks [writeGate t.store, supplyStep t.supply, t.queueStep] t
      (t.acceptJob .reclaimReq l 0 0, acceptedReply t.nextTicket))))

/-- Work is outstanding that a FORMAT waits for, or the epoch has reached its limit (R180). -/
def State.formatBusy (s : State) : Bool :=
  !s.allContextsFree || !s.queue.isEmpty || s.zoneUpdateRunning || decide (s.epoch = 0xFFFFFFFF)

/-- The checks of FORMAT after its format step, in order (R180). -/
def State.formatChecks (s : State) : List (Option Status) :=
  [formatGate s.store, supplyStep s.supply, refuseIf s.formatBusy .busy, refuseIf s.anyZoneFrozen .frozenPresent]

/-- FORMAT. -/
def execFormat (s : State) : Host.Outcome State Fault Refusal :=
  .next (s.serve .format (fun l r t => withFormat (parseEmpty r.payload) t (fun _ =>
    withChecks t.formatChecks t (t.acceptJob .format l 0 0, acceptedReply t.nextTicket))))

end Sys2Proof.Machine
end

