-- ==== Sys2Proof/Machine/Dispatch.lean ====
section
/-! DEFINITION. The dispatch: one arm for each command, one meaning for each arm. -/

namespace Sys2Proof.Machine

/-- The effect of a command on everything but the queue of waiting commands. -/
def exec (i : Instr) (s : State) : Host.Outcome State Fault Refusal :=
  match i with
  | .frameReceived port rx last => Sys2Proof.Machine.execFrameReceived port rx last s
  | .csRise rx bits => Sys2Proof.Machine.execCsRise rx bits s
  | .uartFramingError rx tx => Sys2Proof.Machine.execUartFramingError rx tx s
  | .gapTimerExpiry rx tx => Sys2Proof.Machine.execGapTimerExpiry rx tx s
  | .frameSent traffic => Sys2Proof.Machine.execFrameSent traffic s
  | .reset torn left => Sys2Proof.Machine.execReset torn left s
  | .resetRelease supply rate => Sys2Proof.Machine.execResetRelease supply rate s
  | .supplyLow => Sys2Proof.Machine.execSupplyLow s
  | .supplyNormal => Sys2Proof.Machine.execSupplyNormal s
  | .idleTimerExpiry handle => Sys2Proof.Machine.execIdleTimerExpiry handle s
  | .lineProgramDone readback => Sys2Proof.Machine.execLineProgramDone readback s
  | .sectorEraseDone readback => Sys2Proof.Machine.execSectorEraseDone readback s
  | .jobStart => Sys2Proof.Machine.execJobStart s
  | .backgroundPassStart => Sys2Proof.Machine.execBackgroundPassStart s
  | .passResume => Sys2Proof.Machine.execPassResume s
  | .hello => Sys2Proof.Machine.execHello s
  | .stat wp => Sys2Proof.Machine.execStat wp s
  | .sectors => Sys2Proof.Machine.execSectors s
  | .linkstat => Sys2Proof.Machine.execLinkstat s
  | .readCommitted => Sys2Proof.Machine.execReadCommitted s
  | .readOwn => Sys2Proof.Machine.execReadOwn s
  | .list => Sys2Proof.Machine.execList s
  | .write wp => Sys2Proof.Machine.execWrite wp s
  | .delete wp => Sys2Proof.Machine.execDelete wp s
  | .begin => Sys2Proof.Machine.execBegin s
  | .stage wp => Sys2Proof.Machine.execStage wp s
  | .unstage => Sys2Proof.Machine.execUnstage s
  | .commit wp => Sys2Proof.Machine.execCommit wp s
  | .abort => Sys2Proof.Machine.execAbort s
  | .txninfo => Sys2Proof.Machine.execTxninfo s
  | .watchAdd => Sys2Proof.Machine.execWatchAdd s
  | .watchRemove => Sys2Proof.Machine.execWatchRemove s
  | .watchClear => Sys2Proof.Machine.execWatchClear s
  | .notices => Sys2Proof.Machine.execNotices s
  | .zones => Sys2Proof.Machine.execZones s
  | .zoneSetDefine wp => Sys2Proof.Machine.execZoneSetDefine wp s
  | .zoneSetClear wp => Sys2Proof.Machine.execZoneSetClear wp s
  | .reclaim => Sys2Proof.Machine.execReclaim s
  | .format => Sys2Proof.Machine.execFormat s
  | .badType => Sys2Proof.Machine.execBadType s
  | .frameAbandoned port rx last => Sys2Proof.Machine.execFrameAbandoned port rx last s

end Sys2Proof.Machine
end

