-- ==== Sys2Proof/Machine/Step.lean ====
section
/-! DEFINITION. The step: the waiting command at the front of the queue, or, where none waits, a pass's next pause point or a millisecond
of time. -/

namespace Sys2Proof.Machine

/-- One step: exec of the command at the front of the queue, with the queue's rest; on an empty queue a pass comes to its
next pause point or one millisecond passes (log entries 10 and 28). -/
def step (s : State) : Host.Outcome State Fault Refusal :=
  match s.pending with
  | [] => .next s.quiet
  | c :: rest => exec c (s.withPending rest)

/-- The state with the command that a word spells put at the front of the queue; unchanged where the word spells none, which is every
word (log entry 7). -/
def State.withFetchWord (s : State) (nbits w : Nat) : State :=
  match decodeTableWord nbits w with
  | some c => s.withPending (c :: s.pending)
  | none => s

end Sys2Proof.Machine
end

