-- ==== Sys2Proof/Safety.lean ====
section
/-! DEFINITION. What counts as a safe state of the part, and the terms the claims are stated in: the data sheet's laws as invariants,
the request the executor serves next, the state after a request has been answered, and the commands that may change a block. -/

namespace Sys2Proof.Machine

/-! ### Invariants -/

/-- One link's slots (law L8, R151, R160, R163): between events no request is in service, each request in the FIFO has one reservation,
the FIFO has 4 places, occupied and reserved slots are at most 16, and a JOB_DONE waits in the backlog only while no slot is free. That no
request is in service between events is the model's choice (log entry 17). -/
def Framer.slotsHold (f : Framer) : Prop :=
  f.inService = none ∧ f.reservations = f.fifo.length ∧ f.fifo.length ≤ 4 ∧ f.out.length + f.reservations ≤ 16
    ∧ (f.backlog ≠ [] → 16 ≤ f.out.length + f.reservations)

/-- Law L8 on both links. -/
def State.slotsHold (s : State) : Prop :=
  s.lf0.slotsHold ∧ s.lf1.slotsHold

/-- ATTN is asserted exactly while LF0's outbound queue holds a frame (R156). -/
def State.attnAgrees (s : State) : Prop :=
  s.attn = !s.lf0.out.isEmpty

/-- Law L6: the directory is in strictly ascending key order (R5). -/
def State.directoryOrdered (s : State) : Prop :=
  s.directory.Pairwise (fun a b => a.key.toNat < b.key.toNat)

/-- Law L1: no key has two holders (R32). -/
def State.holdsSingle (s : State) : Prop :=
  s.holds.Pairwise (fun a b => a.1 ≠ b.1)

/-- Law L2, first part: a staged list has at most 16 entries and no repeated key (R26). -/
def Context.listHolds (c : Context) : Prop :=
  c.staged.length ≤ 16 ∧ c.staged.Pairwise (fun a b => a.key ≠ b.key)

/-- Law L2, first part, in every context. -/
def State.listsHold (s : State) : Prop :=
  ∀ h : Handle, (s.context h).listHolds

/-- A fold stands in no job but a COMMIT (R73, R84). -/
def State.foldsInCommits (s : State) : Prop :=
  ∀ r, s.running = some r → r.fold ≠ none → ∃ h, r.job.work = .commit h

/-- The image lines of the array are in canonical form. -/
def State.arrayCanonical (s : State) : Prop :=
  s.array.cells.wf = true

/-- While reset is held everything but the array and the waiting commands is at its reset value (R143): no pass, no job and no array operation
stands, whatever a link's pins shift out meanwhile. The values that no rule gives are those of log entries 12 and 23. -/
def State.heldAtRest (s : State) : Prop :=
  s.held = true → s =
    { State.resetWith s.array s.pending with
      lf0 := { Framer.reset with wire := s.lf0.wire }
      lf1 := { Framer.reset with wire := s.lf1.wire } }

/-! ### The request the executor serves next (R160, R161) -/

/-- The executor's next request is the head of link l's FIFO: the reset is released, and of two links with requests it takes the one
that was not served last. -/
def State.serving (s : State) (l : Link) (r : Request) : Prop :=
  s.held = false ∧ (s.link l).fifo.head? = some r ∧ ((s.link (otherLink l)).fifo = [] ∨ s.lastServed = otherLink l)

/-- The reply frame of a request with a TYPE below 0x80 (R168). -/
def Request.answer (r : Request) (payload : List Byte) : Frame :=
  ⟨r.tag, r.typ + 0x80, payload⟩

/-- The state after a request of link l has been taken and answered and nothing else has changed: the request has left the FIFO, its
reply has taken a slot in place of its reservation, the retry cache holds it, and the pointer names the link (R159 to R162). -/
def State.answered (s : State) (l : Link) (r : Request) (payload : List Byte) : State :=
  { s.setLink l
      { s.link l with
        fifo := (s.link l).fifo.tail
        inService := none
        out := (s.link l).out ++ [r.answer payload]
        reservations := (s.link l).reservations - 1
        retry := some ⟨r.tag, r.typ, r.answer payload⟩ }
    with lastServed := l }

/-- The store is READY or READ_ONLY: requests that read are taken (R21). -/
def Store.readable : Store → Bool
  | .ready => true
  | .readOnly _ => true
  | _ => false

/-- A user key (section 1.1). -/
def userKey (k : Key) : Prop :=
  1 ≤ k.toNat ∧ k.toNat ≤ 0xFEFF

/-- The result of the first step of a list whose condition holds; none where no step refuses (section 10.1). -/
def firstOf : List (Bool × Byte) → Option Byte
  | [] => none
  | (condition, code) :: rest => if condition then some code else firstOf rest

/-! ### A frame in the receive machine (R153) -/

/-- What the receive machine holds when it has taken the first n bytes of a frame, SYNC among them, and not its last. -/
def Frame.gathered (f : Frame) (n : Nat) : Rx :=
  if n = 0 then .hunt
  else if n ≤ 4 then .header (f.checked.take (n - 1))
  else if n < f.payload.length + 5 then .body f.payload.length f.tag f.typ (f.payload.take (n - 5))
  else if n = f.payload.length + 5 then .check f.payload.length f.tag f.typ f.payload none
  else .check f.payload.length f.tag f.typ f.payload (some ((crc16 f.checked).extractLsb' 8 8))

/-! ### What mount finds on the array (R113, R116, R118) -/

/-- The image scan of a sector comes to a line: line 1, and the line after each image it comes to, whether or not the payload agrees. -/
inductive CellArray.ScanReaches (a : CellArray) (x : Sector) : Nat → Prop where
  | first : a.ScanReaches x 1
  | after {c : Nat} {h : ImageHeader} (reached : a.ScanReaches x c) (within : c < 256)
      (image : readImageHeader (a.readLine ⟨x, c⟩) c = .image h) : a.ScanReaches x (c + h.lines)

/-- A sector that the image scan reads: its prepared block is valid with the store epoch, and its open sequence is valid. -/
def CellArray.scanned (a : CellArray) (epoch : Word32) (x : Sector) : Prop :=
  (∃ count, readPrepared a.headers[x] = .valid (epoch, count)) ∧ ∃ v, readOpenSequence a.headers[x] = .valid v

/-- The image scan reads a valid header at a location. -/
def CellArray.readable (a : CellArray) (epoch : Word32) (loc : Loc) (h : ImageHeader) : Prop :=
  a.scanned epoch loc.sector ∧ a.ScanReaches loc.sector loc.line ∧ loc.line < 256
    ∧ readImageHeader (a.readLine loc) loc.line = .image h

/-- An image that counts for its key: a VALUE or TOMBSTONE with an intact payload that is SOLO, or TAGGED with an intact MARK of its
generation on the array. -/
def CellArray.stands (a : CellArray) (epoch : Word32) (loc : Loc) (h : ImageHeader) : Prop :=
  a.readable epoch loc h ∧ a.payloadAgrees loc h = true ∧ h.kind ≠ .mark ∧
    (h.tagging = .solo ∨ ∃ (at' : Loc) (m : ImageHeader), a.readable epoch at' m ∧ a.payloadAgrees at' m = true ∧ m.kind = .mark
      ∧ m.generation = h.generation)

/-! ### Commands by what they may change -/

/-- The commands that complete or cut off an array operation: the only ones at which the array changes (R48, R52). -/
def touchesArray : Instr → Bool
  | .lineProgramDone .. | .sectorEraseDone .. | .reset .. => true
  | _ => false

/-- The commands in which the zone table in force may change: a switch, a format's start, reset and mount (R130). -/
def touchesZones : Instr → Bool
  | .lineProgramDone .. | .jobStart | .reset .. | .resetRelease .. => true
  | _ => false

/-- The request steps. -/
def isRequest : Instr → Bool
  | .hello | .stat .. | .sectors | .linkstat | .readCommitted | .readOwn | .list | .write .. | .delete .. | .begin | .stage .. => true
  | .unstage | .commit .. | .abort | .txninfo | .watchAdd | .watchRemove | .watchClear | .notices | .zones | .zoneSetDefine .. => true
  | .zoneSetClear .. | .reclaim | .format | .badType => true
  | _ => false

end Sys2Proof.Machine
end

