-- ==== Sys2Proof/Certificates/Slice0/Obligations.lean ====
section
/-! DEFINITION. The statements for the provers, family by family: the machine as a whole, links, reset and supply, the array and its
jobs, and the requests. -/

open Sys2Proof Sys2Proof.Machine

/-! ### The machine as a whole -/

/-- A step with a command at the front of the queue is exec of that command on the state with the queue's rest. The queue of waiting
commands is the model's own. -/
def Obligations.StepRunsFrontCommand : Prop :=
  ∀ (s : State) (c : Instr) (rest : List Instr), s.pending = c :: rest → step s = exec c { s with pending := rest }

/-- The model's choice of time (log entry 10): with no command waiting, the reset released and no pass between two of its steps (log entry
28, PassWalksImageByImage), a step is one millisecond. Each context whose idle timer has reached its timeout expires, as R39 says: it
becomes FREE, its holds are released and its units returned, and TXN_EXPIRED with its handle is offered to its owner, in ascending order of
handles. Every other running timer counts up by one, and nothing else changes (R38, R39). -/
def Obligations.IdleStepCountsTimers : Prop :=
  ∀ s : State, s.pending = [] → s.held = false → s.pausePoint = none →
    (let due (h : Handle) : Bool := match s.context h with
       | .opened _ timeout idle _ => decide (timeout ≤ idle)
       | _ => false
     ∃ t, step s = .next t ∧
      (∀ h : Handle, t.context h = match s.context h with
        | .opened owner timeout idle staged => if timeout ≤ idle then .free else .opened owner timeout (idle + 1) staged
        | c => c) ∧
      t.holds = s.holds.filter (fun p => match p.2 with
        | .context h => !due h
        | .job _ => true) ∧
      t.poolFree = s.poolFree + ((List.finRange 4).map (fun h => if due h then stagedUnits (s.context h).staged else 0)).sum ∧
      (∀ l : Link, t.link l
        = ((List.finRange 4).filter (fun h => due h && (s.context h).openFor l)).foldl (fun f h => f.offer (.txnExpired h)) (s.link l)) ∧
      { t with contexts := s.contexts, holds := s.holds, poolFree := s.poolFree, lf0 := s.lf0, lf1 := s.lf1, attn := s.attn } = s ∧
      ((∀ h : Handle, due h = false) → { t with contexts := s.contexts } = s))

/-- The state after reset meets the eight invariants that the next statements carry through every step: the slots of law L8, ATTN, the
directory's order, single holders, staged lists, folds in COMMIT jobs alone, the array's canonical form, and the reset values while reset is
held. That no request is in service between events, a part of the first, is the model's choice (log entry 17), and so are the values that stand
while reset is held where no rule gives one (log entries 12 and 23). -/
def Obligations.ResetMeetsTheInvariants : Prop :=
  State.reset.slotsHold ∧ State.reset.attnAgrees ∧ State.reset.directoryOrdered ∧ State.reset.holdsSingle ∧ State.reset.listsHold
    ∧ State.reset.foldsInCommits ∧ State.reset.arrayCanonical ∧ State.reset.heldAtRest

/-- Law L8: every step keeps each link's slots within 16, one reservation for each request in the FIFO, at most 4 of those, and a backlog only
while every slot is occupied or reserved. Model's choice: between steps no request is in service, so the reservations are as many as the
requests in the FIFO, where R151 counts the one in service too (log entry 17). -/
def Obligations.StepKeepsLinkSlots : Prop :=
  ∀ s t : State, s.slotsHold → step s = .next t → t.slotsHold

/-- ATTN follows LF0's outbound queue through every step (R156). -/
def Obligations.StepKeepsAttn : Prop :=
  ∀ s t : State, s.attnAgrees → step s = .next t → t.attnAgrees

/-- Law L6: every step keeps the directory in strictly ascending key order. -/
def Obligations.StepKeepsDirectoryOrder : Prop :=
  ∀ s t : State, s.directoryOrdered → step s = .next t → t.directoryOrdered

/-- Law L1: every step keeps at most one holder of a key. -/
def Obligations.StepKeepsSingleHolders : Prop :=
  ∀ s t : State, s.holdsSingle → step s = .next t → t.holdsSingle

/-- Law L2, first part: every step keeps staged lists of at most 16 entries with no repeated key. -/
def Obligations.StepKeepsStagedLists : Prop :=
  ∀ s t : State, s.listsHold → step s = .next t → t.listsHold

/-- Every step keeps a fold in no job but a COMMIT: a fold is a step of a COMMIT job of two or more entries (R73, R84). -/
def Obligations.StepKeepsFoldsInCommits : Prop :=
  ∀ s t : State, s.foldsInCommits → step s = .next t → t.foldsInCommits

/-- Every step keeps the image lines of the array in canonical form. -/
def Obligations.StepKeepsArrayCanonical : Prop :=
  ∀ s t : State, s.arrayCanonical → step s = .next t → t.arrayCanonical

/-- While reset is held every step keeps the reset values: no pass, no job, no array operation in progress, no context, hold or frame, all but
the array and the waiting commands; what the pins of a link shift out meanwhile is the fill byte or nothing (R143, R164). A step that takes
RESET leaves them. Model's choice: which commands act while reset is held (log entry 12), and the values that no rule gives (log entry 23). -/
def Obligations.StepKeepsResetValuesWhileHeld : Prop :=
  ∀ s t : State, s.heldAtRest → step s = .next t → t.heldAtRest

/-- The array changes at no command but the completion of a program or erase, and a reset that cuts one off. -/
def Obligations.ArrayChangesOnlyAtItsOperations : Prop :=
  ∀ (c : Instr) (s t : State), touchesArray c = false → exec c s = .next t → t.array = s.array

/-- The zone table in force changes at no command but those in which a switch, the start of a format, reset or mount can fall (R130), in any
state in which a fold stands in no job but a COMMIT, which every step keeps (StepKeepsFoldsInCommits). -/
def Obligations.ZonesChangeOnlyAtTheirEvents : Prop :=
  ∀ (c : Instr) (s t : State), s.foldsInCommits → touchesZones c = false → exec c s = .next t → t.zones = s.zones

/-- A refused request leaves holds, pool, directory, zone table, job queue, watch tables and staged lists as they were (R169): the reply of
the request the executor served has a STATUS of 0x10 or above. Taking, serving and answering a request are one step (log entry 17). -/
def Obligations.RefusedRequestHasNoEffect : Prop :=
  ∀ (c : Instr) (s t : State) (l : Link) (r : Request) (status : Byte) (fields : List Byte),
    isRequest c = true → s.serving l r → exec c s = .next t → t ≠ s →
    (t.link l).out.getLast? = some ⟨r.tag, replyType r.typ, status :: fields⟩ → 0x10 ≤ status.toNat →
      t.holds = s.holds ∧ t.poolFree = s.poolFree ∧ t.directory = s.directory ∧ t.zones = s.zones ∧ t.queue = s.queue
        ∧ t.lf0.watches = s.lf0.watches ∧ t.lf1.watches = s.lf1.watches
        ∧ ∀ h : Handle, (t.context h).staged = (s.context h).staged

/-- READ in view COMMITTED is the same whatever is staged, held or queued: no link sees the other's staged changes through it (R8,
R45). -/
def Obligations.CommittedViewIgnoresStaging : Prop :=
  ∀ (s t : State) (contexts : Vector Context 4) (holds : List (Key × Holder)) (queue : List Job) (poolFree : Nat),
    exec .readCommitted s = .next t →
      exec .readCommitted { s with contexts := contexts, holds := holds, queue := queue, poolFree := poolFree }
        = .next { t with contexts := contexts, holds := holds, queue := queue, poolFree := poolFree }

/-! ### Links -/

/-- FRAME_RECEIVED: the traffic that completes a frame whose CHECK agrees, whether the frame was begun in it, after bytes that start none, or
in an earlier command, makes a good frame, which the first step of R158 that applies settles. Model's choice: what the link sends in the
same traffic goes out first (log entry 6). -/
def Obligations.GoodFrameAcceptance : Prop :=
  ∀ (s : State) (port : Port) (rx : List Byte) (last : Byte) (traffic : Traffic) (tag typ : Byte) (payload : List Byte) (n : Nat)
    (fill : List Byte) (f g : Framer),
    s.held = false → traffic = port.traffic (rx ++ [last]) → payload.length ≤ 272 → n < payload.length + 7 →
    (s.link traffic.link).rx = (Frame.mk tag typ payload).gathered n → (∀ b ∈ fill, b ≠ 0xA5) → (n ≠ 0 → fill = []) →
    traffic.rx = fill ++ (Frame.mk tag typ payload).bytes.drop n →
    f = { (s.link traffic.link).sends traffic with
          rx := .hunt
          goodFrames := saturatingSucc (s.link traffic.link).goodFrames } →
    (let free : Nat := 16 - f.out.length - f.reservations
     let dropped : Framer := { f with dropped := saturatingSucc f.dropped }
     let frames (frame : Frame) : Framer := { f with out := f.out ++ [frame] }
     g = if f.retry.any (fun e => e.tag == tag && e.typ == typ) then
           (match f.retry with
             | some e => if 0 < free then frames e.reply else dropped
             | none => f)
         else if f.fifo.any (fun r => r.tag == tag) || f.inService.any (fun r => r.tag == tag) then f
         else if f.fifo.length < 4 ∧ 0 < free ∧ f.backlog = [] then
           { f with fifo := f.fifo ++ [⟨tag, typ, payload⟩], reservations := f.reservations + 1 }
         else if 0 < free then frames ⟨tag, if typ.toNat < 0x80 then typ + 0x80 else typ, [0x60]⟩
         else dropped) →
    exec (.frameReceived port rx last) s = .next (s.setLink traffic.link g)

/-- FRAME_RECEIVED of a frame whose CHECK disagrees, and FRAME_ABANDONED at a second LENGTH byte that gives more than 272: the frame is given
up, CHECK_ERRORS rises by 1, the machine hunts, and nothing else changes but by what the link sends meanwhile (R153). The frame may be begun
in this traffic, after bytes that start none, or in an earlier command. -/
def Obligations.BadFramesCounted : Prop :=
  ∀ (s : State) (port : Port) (rx : List Byte) (last : Byte) (traffic : Traffic) (n : Nat) (fill : List Byte) (f : Framer),
    s.held = false → traffic = port.traffic (rx ++ [last]) → (∀ b ∈ fill, b ≠ 0xA5) → (n ≠ 0 → fill = []) →
    f = { (s.link traffic.link).sends traffic with
          rx := .hunt
          checkErrors := saturatingSucc (s.link traffic.link).checkErrors } →
    (∀ (tag typ c1 c0 : Byte) (payload : List Byte), payload.length ≤ 272 → n < payload.length + 6 →
      (s.link traffic.link).rx = (Frame.mk tag typ payload).gathered n →
      be16 (crc16 (be16Nat payload.length ++ [tag, typ] ++ payload)) ≠ [c1, c0] →
      traffic.rx = fill ++ ([0xA5] ++ be16Nat payload.length ++ [tag, typ] ++ payload ++ [c1, c0]).drop n →
      exec (.frameReceived port rx last) s = .next (s.setLink traffic.link f)) ∧
    (∀ high low : Byte, 272 < 256 * high.toNat + low.toNat → n < 3 →
      (s.link traffic.link).rx = (if n = 0 then .hunt else .header ([high].take (n - 1))) →
      traffic.rx = fill ++ [0xA5, high, low].drop n →
      exec (.frameAbandoned port rx last) s = .next (s.setLink traffic.link f))

/-- CS_RISE, UART_FRAMING_ERROR and GAP_TIMER_EXPIRY: each cuts a frame of which some bytes but not the last have been received, in this
traffic or before it, and CUT_FRAMES rises by 1; with no frame begun each leaves the receive machine as it is, and the bits of an incomplete
byte change nothing (R153, R154, R157). The rest is what the link sends meanwhile. -/
def Obligations.CutsDiscardPartialFrames : Prop :=
  ∀ (s : State) (tag typ : Byte) (payload : List Byte) (n m tx : Nat) (fill : List Byte),
    s.held = false → payload.length ≤ 272 → n ≤ m → m < payload.length + 7 → (∀ b ∈ fill, b ≠ 0xA5) → (n ≠ 0 → fill = []) →
    (let rx := fill ++ ((Frame.mk tag typ payload).bytes.take m).drop n
     let after (traffic : Traffic) : State :=
       s.setLink traffic.link (if m = 0 then (s.link traffic.link).sends traffic
         else { (s.link traffic.link).sends traffic with
                rx := .hunt
                cutFrames := saturatingSucc (s.link traffic.link).cutFrames })
     (s.lf0.rx = (Frame.mk tag typ payload).gathered n → ∀ bits, exec (.csRise rx bits) s = .next (after (.spi rx))) ∧
     (s.lf1.rx = (Frame.mk tag typ payload).gathered n →
       exec (.uartFramingError rx tx) s = .next (after (.uart rx tx)) ∧
       exec (.gapTimerExpiry rx tx) s = .next (after (.uart rx tx))))

/-- FRAME_SENT on a link that receives no frame meanwhile: each byte that goes out is the head frame's next, from SYNC to the second CHECK
byte. With its last byte the frame leaves its slot, and the head of the JOB_DONE backlog takes the slot that frees on a full link, with its
TAG and lost count given then. Before its last byte it stays. With no frame queued Link 0 shifts out 0xFF at every byte position and Link 1
sends nothing (R154, R155, R157, R163, R164). Model's choice: the bytes that went out are kept in a field of the link (log entry 6). -/
def Obligations.FramesGoOutByteByByte : Prop :=
  ∀ (s : State) (traffic : Traffic), s.held = false → (s.link traffic.link).rx = .hunt → (∀ b ∈ traffic.rx, b ≠ 0xA5) →
    (let f := s.link traffic.link
     let moved := match traffic with
       | .spi rx => rx.length
       | .uart _ tx => tx
     (∀ head rest, f.out = head :: rest → f.sent < head.bytes.length →
       (f.sent + moved < head.bytes.length →
         exec (.frameSent traffic) s = .next (s.setLink traffic.link
           { f with sent := f.sent + moved, wire := (head.bytes.drop f.sent).take moved })) ∧
       (f.sent + moved = head.bytes.length → f.backlog = [] →
         exec (.frameSent traffic) s = .next (s.setLink traffic.link { f with out := rest, sent := 0, wire := head.bytes.drop f.sent })) ∧
       (∀ n waiting, f.sent + moved = head.bytes.length → f.backlog = n :: waiting → f.out.length + f.reservations = 16 →
         exec (.frameSent traffic) s = .next (s.setLink traffic.link
           { f with
             out := rest ++ [⟨f.sequence, n.typ, f.lost :: n.fields⟩]
             sent := 0
             wire := head.bytes.drop f.sent
             backlog := waiting
             sequence := f.sequence + 1
             lost := 0 }))) ∧
     (f.out = [] → exec (.frameSent traffic) s = .next (s.setLink traffic.link
       { f with wire := match traffic with
           | .spi rx => List.replicate rx.length 0xFF
           | .uart _ _ => [] })))

/-! ### Reset, supply and timers -/

/-- RESET: whatever the part was doing, all working memory takes its reset value and the waiting commands stay (R6, R23, R32, R34, R66,
R68, R70, R93, R112, R143, R151). The values that stand while reset is held are the model's where no rule gives one (log entries 12 and 23). -/
def Obligations.ResetClearsWorkingMemory : Prop :=
  ∀ (torn : HeaderLine) (left : SectorContent) (s : State), ∃ t, exec (.reset torn left) s = .next t ∧ t.held = true
    ∧ t.store = .mounting ∧ t.directory = [] ∧ t.reservedLines = 0 ∧ t.slotReservations = 0
    ∧ (∀ h : Handle, t.context h = .free) ∧ t.holds = [] ∧ t.poolFree = 256
    ∧ t.queue = [] ∧ t.nextTicket = 1 ∧ t.generationNext = 0 ∧ t.marks = [] ∧ t.engine = .mounting ∧ t.running = none ∧ t.pass = none
    ∧ (∀ x : Sector, t.sectors[x] = ⟨.unscanned, 0, 0, 0, 0⟩) ∧ t.epoch = 0 ∧ t.openSequenceNext = 0 ∧ t.ops = []
    ∧ (∀ i : Fin 8, t.zones[i] = none) ∧ t.lf0 = Framer.reset ∧ t.lf1 = Framer.reset ∧ t.attn = false ∧ t.lastServed = .link1
    ∧ t.mount = some ⟨.headerScan, [], [], none, none, none, none, [], none, [], []⟩ ∧ t.pending = s.pending

/-- RESET cuts off the operation in progress (R52): of a line program, each bit that was to be cleared is cleared or not and every other
bit and line keeps its content; of an erase, every other sector keeps its content; with no operation the array is kept. -/
def Obligations.ResetCutsOffTheOperation : Prop :=
  ∀ (torn : HeaderLine) (left : SectorContent) (s t : State), s.arrayCanonical → exec (.reset torn left) s = .next t →
    (s.ops = [] → t.array = s.array) ∧
    (∀ w start n pattern expected rest, s.ops = .image w start n pattern expected :: rest →
      t.array.headers = s.array.headers ∧
      t.array.readLine ⟨start.sector, start.line + n⟩
        = s.array.readLine ⟨start.sector, start.line + n⟩ &&& (expected ||| torn.setWidth 128) ∧
      ∀ a, (a < lineAddress ⟨start.sector, start.line + n⟩ ∨ lineAddress ⟨start.sector, start.line + n⟩ + 16 ≤ a) →
        t.array.cells.read a = s.array.cells.read a) ∧
    (∀ x field pattern expected rest, s.ops = .header x field pattern expected :: rest →
      t.array.cells = s.array.cells ∧ t.array.headers[x] = s.array.headers[x] &&& (expected ||| torn) ∧
      ∀ y : Sector, y ≠ x → t.array.headers[y] = s.array.headers[y]) ∧
    (∀ x e rest, s.ops = .erase x e :: rest →
      (∀ y : Sector, y ≠ x → t.array.headers[y] = s.array.headers[y]) ∧
      ∀ a, (a < x.val * 4096 ∨ x.val * 4096 + 4096 ≤ a) → t.array.cells.read a = s.array.cells.read a)

/-- RESET_RELEASE on an array in which no header holds a valid prepared block: mount ends at once in BLANK, and MOUNTED is offered to both
links (R115). Model's choice: the header scan is one event with the release (log entry 18), and it reads headers by log entries 1 and 2. -/
def Obligations.MountOfABlankArray : Prop :=
  ∀ (s : State) (supply : Supply) (rate : UartRate), s.held = true →
    (∀ x : Sector, ∀ p, readPrepared s.array.headers[x] ≠ .valid p) →
    ∃ t, exec (.resetRelease supply rate) s = .next t ∧ t.held = false ∧ t.supply = supply ∧ t.uartRate = rate ∧ t.store = .blank
      ∧ t.mount = none ∧ t.generationNext = 1 ∧ t.openSequenceNext = 1 ∧ t.epoch = s.epoch ∧ t.directory = s.directory
      ∧ t.array = s.array
      ∧ (∀ x : Sector, t.sectors[x].state = if s.array.headers[x] = 0 then .retired else .unprepared)
      ∧ t.lf0 = s.lf0.offer (.mounted .blank t.liveKeyCount 1 t.retiredCount s.epoch)
      ∧ t.lf1 = s.lf1.offer (.mounted .blank t.liveKeyCount 1 t.retiredCount s.epoch)

/-- RESET_RELEASE on a formatted array: header scan, image scan and resolve, with the sweep held by a LOW supply or with no VICTIM sector to
take up. The epoch is the highest of the valid prepared blocks; a header of zeros is RETIRED, a sector without a valid block of that epoch
waits for the sweep, the others take their erase count and open sequence; the counters follow the highest values read. A directory entry
points at an image that stands, of which no other standing image of the key has a higher generation, nor is SOLO at the same generation
where the entry is TAGGED; while the directory is not full every key with a standing image has an entry; each mark's dependents are counted
(R112 to R123). The reclaim context is in phase NONE, as it is in every state in which reset is held (R93, StepKeepsResetValuesWhileHeld).
Model's choice: the scans and resolve are one event with the release (log entry 18), the bits of headers and images are those of log entries
1, 2 and 9. -/
def Obligations.MountFindsTheStore : Prop :=
  ∀ (s : State) (supply : Supply) (rate : UartRate) (epoch : Word32), s.held = true → s.pass = none →
    (∃ (x : Sector) (count : Word32), readPrepared s.array.headers[x] = .valid (epoch, count)) →
    (∀ (x : Sector) (e count : Word32), readPrepared s.array.headers[x] = .valid (e, count) → e.toNat ≤ epoch.toNat) →
    (supply = .low ∨ ∀ x : Sector, s.array.scanned epoch x → victimMarkSet s.array.headers[x] = false) →
    (let a := s.array
     let marked (x : Sector) : Bool := fullMarkSet a.headers[x] || victimMarkSet a.headers[x]
     ∃ t, exec (.resetRelease supply rate) s = .next t ∧ t.held = false ∧ t.supply = supply ∧ t.uartRate = rate ∧ t.array = a ∧
      t.epoch = epoch ∧
      (∀ x : Sector, a.headers[x] = 0 → t.sectors[x].state = .retired) ∧
      (∀ x : Sector, a.headers[x] ≠ 0 → (∀ count, readPrepared a.headers[x] ≠ .valid (epoch, count)) →
        t.sectors[x].state = .unscanned) ∧
      (∀ (x : Sector) (count : Word32), readPrepared a.headers[x] = .valid (epoch, count) →
        (readOpenSequence a.headers[x] = .absent → marked x = false → t.sectors[x] = ⟨.erased, count, 0, 0, 0⟩) ∧
        (∀ v, readOpenSequence a.headers[x] = .valid v →
          t.sectors[x].state.openSequence = some v ∧ t.sectors[x].eraseCount = count) ∧
        (readOpenSequence a.headers[x] = .torn ∨ (readOpenSequence a.headers[x] = .absent ∧ marked x = true) →
          t.sectors[x].state = .unscanned)) ∧
      ((∀ (x : Sector) (v : Word32), a.headers[x] ≠ 0 → readOpenSequence a.headers[x] ≠ .valid v) → t.openSequenceNext = 1) ∧
      (∀ (x : Sector) (v : Word32), a.headers[x] ≠ 0 → readOpenSequence a.headers[x] = .valid v → v ≠ 0xFFFFFFFF →
        (∀ (y : Sector) (w : Word32), a.headers[y] ≠ 0 → readOpenSequence a.headers[y] = .valid w → w.toNat ≤ v.toNat) →
        t.openSequenceNext = v + 1) ∧
      (∀ loc h, a.readable epoch loc h → h.generation.toNat < t.generationNext.toNat) ∧
      (t.generationNext = 1 ∨ ∃ loc h, a.readable epoch loc h ∧ h.generation.toNat + 1 = t.generationNext.toNat) ∧
      (∀ (k : Key) (e : DirEntry), t.lookup k = some e → ∃ h, a.stands epoch e.loc h ∧ h.key = k ∧
        e = ⟨k, if h.kind = .value then .live else .deleted, e.loc, h.length, h.generation, h.tagging⟩ ∧
        ∀ at' g, a.stands epoch at' g → g.key = k → g.generation.toNat ≤ h.generation.toNat ∧
          (g.generation = h.generation → g.tagging = .solo → h.tagging = .solo)) ∧
      t.directory.length ≤ 512 ∧
      (t.directory.length < 512 → ∀ loc h, a.stands epoch loc h → ∃ e, t.lookup h.key = some e) ∧
      (∀ m ∈ t.marks, m.dependents = t.directory.countP (fun e => decide (e.generation = m.generation ∧ e.tagging = .tagged)) ∧
        1 ≤ m.dependents ∧ ∃ h, a.readable epoch m.loc h ∧ h.kind = .mark ∧ h.generation = m.generation))

/-- LINE_PROGRAM_DONE with PASS of a prepared block that mount's sweep has asked for: the sector is ERASED, and the sweep goes on with the next
sector to erase, then with the next of the close list. In LOW supply it is held with the engine PAUSED. With nothing left mount ends in one
event: the store is READY, or READ_ONLY with the cause mount met first or for want of capacity, the mount record is discarded, the engine is
IDLE and MOUNTED goes to both links (R56, R124, R125, R127, R129, R149). Model's choice: the bits of the FULL mark (log entry 15). -/
def Obligations.SweepGoesOnAndEnds : Prop :=
  ∀ (s : State) (x : Sector) (count : Word32) (pattern expected : HeaderLine) (m : MountRecord),
    s.held = false → s.store = .mounting → s.ops = [.header x (.preparedBlock .sweep count) pattern expected] → s.mount = some m →
    m.phase = .sweep → s.queue = [] → s.pass = none → s.running = none → s.reservedLines = 0 →
    (let prepared : State :=
       { s with
         array := { s.array with headers := s.array.headers.set x expected }
         sectors := s.sectors.set x ⟨.erased, count, 0, 0, 0⟩ }
     (∀ y more, s.supply = .normal → m.eraseList = y :: more → exec (.lineProgramDone .asExpected) s = .next
       { prepared with engine := .mounting, mount := some { m with eraseList := more }, ops := [.erase y .sweep] }) ∧
     (∀ y more, s.supply = .normal → m.eraseList = [] → m.closeList = y :: more → exec (.lineProgramDone .asExpected) s = .next
       { prepared with
         engine := .mounting
         mount := some { m with closeList := more }
         ops := [.header y .closeSwept fullPattern (prepared.array.headers[y] &&& fullPattern)] }) ∧
     (s.supply = .low → m.eraseList ≠ [] ∨ m.closeList ≠ [] ∨ m.victims ≠ [] →
       exec (.lineProgramDone .asExpected) s = .next { prepared with engine := .paused, ops := [] }) ∧
     (m.eraseList = [] → m.closeList = [] → m.victims = [] →
       ∃ t, exec (.lineProgramDone .asExpected) s = .next t ∧
         t.store = (match m.cause with
           | some cause => .readOnly cause
           | none => if t.nonRetiredCount < 4 ∨ t.liveCapacity < t.liveLines then .readOnly .capacity else .ready) ∧
         t.mount = none ∧ t.engine = .idle ∧ t.ops = [] ∧ t.array = prepared.array ∧ t.sectors = prepared.sectors ∧
         t.directory = s.directory ∧
         ∀ l : Link, t.link l = (s.link l).offer (.mounted t.store (s.directory.countP (fun e => e.state == .live)) s.generationNext
           (t.sectors.toList.countP (fun r => !r.nonRetired)) s.epoch)))

/-- SUPPLY_LOW in NORMAL and SUPPLY_NORMAL in LOW: the supply state changes and, once mount has ended, a SUPPLY notice with the new state is
offered to both links. At SUPPLY_LOW an engine that is IDLE with a job queued or a pass suspended becomes PAUSED; at SUPPLY_NORMAL one that
was PAUSED with no job in progress leaves PAUSED (R142, R144, R146). A change to the present state changes nothing. Model's choice: at
SUPPLY_NORMAL the engine rests in IDLE, and the choice that section 8.5 has it make in the same event, the start of the head job or of a pass,
is a step of its own (log entry 16). -/
def Obligations.SupplyChangesAnnounced : Prop :=
  ∀ s : State, s.held = false →
    ((∀ cause, s.store = .readOnly cause → ∀ j ∈ s.queue, j.work = .format) →
      (s.supply = .normal →
        exec .supplyLow s = .next
          { (if s.store = .mounting then s else s.offerBoth (.supply .low)) with
            supply := .low
            engine := if s.engine = .idle ∧ (s.queue ≠ [] ∨ s.pass ≠ none) then .paused else s.engine }) ∧
      (s.supply = .low → s.mount = none → s.store ≠ .mounting → s.running = none →
        exec .supplyNormal s = .next
          { s.offerBoth (.supply .normal) with
            supply := .normal
            engine := if s.engine = .paused then .idle else s.engine })) ∧
    (s.supply = .low → exec .supplyLow s = .next s) ∧ (s.supply = .normal → exec .supplyNormal s = .next s)

/-- The offer of a notice of any kind: one whose kind the mask disables changes nothing. A JOB_DONE, which no mask disables, takes a free
unreserved slot when the backlog is empty and otherwise joins its tail. Any other takes a free unreserved slot or is lost and counted. A
notice that enters a slot carries the notice sequence as its TAG, the lost count and its own fields (R163, R185, R186, R187, R188). -/
def Obligations.NoticeAdmission : Prop :=
  ∀ (f : Framer) (n : Notice),
    (let disabled := match n with
       | .mounted .. => !f.mask.getLsbD 0
       | .keyChanged .. => !f.mask.getLsbD 1
       | .txnExpired .. => !f.mask.getLsbD 2
       | .supply .. => !f.mask.getLsbD 3
       | .storeState .. => !f.mask.getLsbD 4
       | .jobDone .. => false
     let frame : Frame := match n with
       | .mounted store keys next retired epoch =>
         ⟨f.sequence, 0x60, [f.lost, store.code, store.causeCode] ++ be16Nat keys ++ be32 next ++ [BitVec.ofNat 8 retired] ++ be32 epoch⟩
       | .jobDone ticket kind result g => ⟨f.sequence, 0x61, [f.lost] ++ be16 ticket ++ [kind.code, result.code] ++ be32 g⟩
       | .keyChanged key g deleted => ⟨f.sequence, 0x62, [f.lost] ++ be16 key ++ be32 g ++ [if deleted then 1 else 0]⟩
       | .txnExpired h => ⟨f.sequence, 0x63, [f.lost, BitVec.ofNat 8 (h.val + 1)]⟩
       | .supply v => ⟨f.sequence, 0x64, [f.lost, if v = .low then 1 else 0]⟩
       | .storeState store => ⟨f.sequence, 0x65, [f.lost, store.code, store.causeCode]⟩
     let admitted : Framer := { f with out := f.out ++ [frame], sequence := f.sequence + 1, lost := 0 }
     f.offer n =
      if disabled then f
      else match n with
        | .jobDone .. =>
          if f.backlog = [] ∧ f.out.length + f.reservations < 16 then admitted else { f with backlog := f.backlog ++ [n] }
        | _ =>
          if f.out.length + f.reservations < 16 then admitted
          else
            { f with
              lost := if f.lost = 0xFF then 0xFF else f.lost + 1
              lostNotices := if f.lostNotices = 0xFFFFFFFF then 0xFFFFFFFF else f.lostNotices + 1 })

/-- IDLE_TIMER_EXPIRY: an OPEN context whose idle timer has reached its timeout becomes FREE, its holds are released and its units returned,
and TXN_EXPIRED is offered to its owner. Below the timeout, as after a request that restarted the timer, no expiry happens, and a context
that is not OPEN is left as it is (R39, R40). -/
def Obligations.ExpiryFreesTheContext : Prop :=
  ∀ (s : State) (h : Handle), s.held = false →
    (∀ owner timeout idle staged, s.context h = .opened owner timeout idle staged → timeout ≤ idle →
      ∃ t, exec (.idleTimerExpiry h) s = .next t
        ∧ t.context h = .free ∧ (∀ g : Handle, g ≠ h → t.context g = s.context g)
        ∧ t.holds = s.holds.filter (fun p => decide (p.2 ≠ .context h))
        ∧ t.poolFree = s.poolFree + (staged.map (fun e => match e.change with
            | .value bytes => (bytes.length + 15) / 16
            | .delete => 0)).sum
        ∧ t.link owner = (s.link owner).offer (.txnExpired h) ∧ t.link (otherLink owner) = s.link (otherLink owner)
        ∧ t.directory = s.directory ∧ t.queue = s.queue ∧ t.array = s.array ∧ t.nextTicket = s.nextTicket
        ∧ t.generationNext = s.generationNext) ∧
    (∀ owner timeout idle staged, s.context h = .opened owner timeout idle staged → idle < timeout →
      exec (.idleTimerExpiry h) s = .next s) ∧
    ((∀ owner timeout idle staged, s.context h ≠ .opened owner timeout idle staged) → exec (.idleTimerExpiry h) s = .next s)

/-! ### The array and its jobs -/

/-- SECTOR_ERASE_DONE with PASS: every bit of the sector reads 1, no other sector changes, and the prepared block with the present epoch
and the erase count plus 1, saturating, is requested; in mount's sweep the count is the one that mount's own rule gives (R50, R53, R58,
R124). Model's choice: the bits of the prepared block (log entries 1 and 2). -/
def Obligations.ErasePassPreparesTheSector : Prop :=
  ∀ (s : State) (x : Sector) (e : Eraser) (rest : List ArrayOp), s.held = false → s.ops = .erase x e :: rest →
    ∃ t, exec (.sectorEraseDone .asExpected) s = .next t ∧
      (∀ y : Sector, t.array.headers[y] = if y = x then BitVec.allOnes 176 else s.array.headers[y]) ∧
      (∀ a, t.array.cells.read a = if x.val * 4096 ≤ a ∧ a < x.val * 4096 + 4096 then 0xFF else s.array.cells.read a) ∧
      (let count := match e with
        | .sweep => s.sweptCount x s.array.headers[x]
        | _ => saturatingSucc s.sectors[x].eraseCount
       t.ops = rest ++ [.header x (.preparedBlock e count) (preparedPattern s.epoch count) (preparedPattern s.epoch count)])

/-- A FORMAT's sector, with another non-retired sector still to come. SECTOR_ERASE_DONE with FAIL: the sector holds no valid prepared block, it
becomes RETIRED with its erase count and no line in any figure, and its retired header is requested. LINE_PROGRAM_DONE with PASS of its
prepared block: it becomes ERASED with the block's erase count. Either way the store state stays and the next non-retired sector is erased
(R50, R56, R58, R64, R80). Model's choice: the retired header is programmed ahead of the next erase while the job goes on (log entry 19). -/
def Obligations.FormatGoesSectorBySector : Prop :=
  ∀ (s : State) (x y : Sector) (r : Running),
    s.held = false → s.running = some r → s.store = .formatting → s.supply = .normal → s.engine = .running →
    x.val < r.formatNext → r.formatNext ≤ y.val → s.sectors[y].nonRetired = true →
    (∀ z : Sector, r.formatNext ≤ z.val → z.val < y.val → s.sectors[z].nonRetired = false) →
    (∀ content : SectorContent, s.ops = [.erase x .format] → content.header ≠ BitVec.allOnes 176 →
      (∀ p, readPrepared content.header ≠ .valid p) →
      ∃ t, exec (.sectorEraseDone (.reads content)) s = .next t ∧
        (∀ p, readPrepared t.array.headers[x] ≠ .valid p) ∧
        (∀ z : Sector, t.sectors[z] = if z = x then ⟨.retired, s.sectors[x].eraseCount, 0, 0, 0⟩ else s.sectors[z]) ∧
        t.ops = [.header x .retired 0 0, .erase y .format] ∧ t.store = .formatting ∧ t.engine = .running ∧
        t.running = some { r with formatNext := y.val + 1 }) ∧
    (∀ (count : Word32) (pattern expected : HeaderLine), s.ops = [.header x (.preparedBlock .format count) pattern expected] →
      exec (.lineProgramDone .asExpected) s = .next
        { s with
          array := { s.array with headers := s.array.headers.set x expected }
          sectors := s.sectors.set x ⟨.erased, count, 0, 0, 0⟩
          running := some { r with formatNext := y.val + 1 }
          ops := [.erase y .format] })

/-- The last sector of a FORMAT, prepared (LINE_PROGRAM_DONE with PASS of its block) or retired (SECTOR_ERASE_DONE with FAIL): the store becomes
READY, or READ_ONLY for want of sectors or of generations, STORE_STATE goes to both links and then JOB_DONE with OK to the origin (R64, R81,
R189). Model's choice: a retired header is programmed after the job's end (log entry 19), and the engine rests in IDLE (log entry 16). -/
def Obligations.FormatEnds : Prop :=
  ∀ (s : State) (x : Sector) (r : Running),
    s.held = false → s.running = some r → r.job.work = .format → r.generation = 0 → s.store = .formatting → s.queue = [] →
    x.val < r.formatNext → (∀ z : Sector, r.formatNext ≤ z.val → s.sectors[z].nonRetired = false) →
    (let ended (t : State) : Prop :=
       t.store = (if t.nonRetiredCount < 4 then .readOnly .capacity
         else if s.generationNext = 0xFFFFFFFF then .readOnly .generation else .ready) ∧
       t.running = none ∧ t.generationNext = s.generationNext ∧ t.epoch = s.epoch ∧ t.directory = s.directory ∧
       t.link r.job.origin
         = ((s.link r.job.origin).offer (.storeState t.store)).offer (.jobDone r.job.ticket .format .ok 0) ∧
       t.link (otherLink r.job.origin) = (s.link (otherLink r.job.origin)).offer (.storeState t.store)
     (∀ (count : Word32) (pattern expected : HeaderLine), s.ops = [.header x (.preparedBlock .format count) pattern expected] →
       ∃ t, exec (.lineProgramDone .asExpected) s = .next t ∧ ended t ∧ t.ops = [] ∧
         ∀ z : Sector, t.sectors[z] = if z = x then ⟨.erased, count, 0, 0, 0⟩ else s.sectors[z]) ∧
     (∀ content : SectorContent, s.ops = [.erase x .format] → content.header ≠ BitVec.allOnes 176 →
       (∀ p, readPrepared content.header ≠ .valid p) →
       ∃ t, exec (.sectorEraseDone (.reads content)) s = .next t ∧ ended t ∧ t.ops = [.header x .retired 0 0] ∧
         ∀ z : Sector, t.sectors[z] = if z = x then ⟨.retired, s.sectors[x].eraseCount, 0, 0, 0⟩ else s.sectors[z]))

/-- The program-failure ladder of a job, a fold or a reclaim copy, up to its retries. LINE_PROGRAM_DONE with FAIL of a line of an image: its lines
become stale and the failure is counted. A failed header line has the FULL mark of its sector programmed first, at any count. A failed payload
line leaves the sector OPEN: at the first failure the image is programmed again there from the cursor on, and at the second, or where it does
not fit, the OPEN sector's FULL mark is programmed. LINE_PROGRAM_DONE of that mark, with PASS or FAIL: the sector is FULL, its unwritten lines
are stale, and the ERASED sector with the lowest erase count, then the lowest index, takes the next open sequence; the last ERASED sector is
opened for a copy only. LINE_PROGRAM_DONE with PASS of the open sequence: the sector is OPEN and the image is programmed again from its line
1. Nothing else changes (R56, R59, R60, R62, R63, R75, R85, R103, R105). Model's choice: the bits of the FULL mark and of the image header, the
FULL mark's place ahead of the ladder's next step, and the counter past its highest value, which is free (log entries 3, 9, 15 and 19). -/
def Obligations.FailedImagesClimbTheLadder : Prop :=
  ∀ (s : State) (w : Writer) (x : Writing),
    s.held = false → s.engine ≠ .idle → s.writing w = some x →
    (∀ cause, s.store = .readOnly cause → ∀ j ∈ s.queue, j.work = .format) →
    (let lines := x.image.lines
     let full (z : Sector) (field : HeaderField) : ArrayOp := .header z field fullPattern (s.array.headers[z] &&& fullPattern)
     let opened (z : Sector) : Prop := ∃ q c, s.sectors[z].state = .opened q c
     (∀ (start : Loc) (n : Nat) (pattern expected : Line) (bits : HeaderLine), s.ops = [.image w start n pattern expected] →
       s.array.readLine ⟨start.sector, start.line + n⟩ &&& bits.setWidth 128 ≠ expected →
       (let array := s.array.writeLine ⟨start.sector, start.line + n⟩
          (s.array.readLine ⟨start.sector, start.line + n⟩ &&& bits.setWidth 128)
        let failed := s.sectors.set start.sector { s.sectors[start.sector] with
          pending := s.sectors[start.sector].pending - lines
          stale := s.sectors[start.sector].stale + lines }
        let after (sectors : Vector SectorRecord 32) (op : ArrayOp) : State :=
          ({ s with array := array, sectors := sectors, ops := [op] } : State).setWriting w (some { x with failures := x.failures + 1 })
        (n = 0 → exec (.lineProgramDone (.reads bits)) s = .next (after failed (full start.sector (.closeFailed w)))) ∧
        (∀ (y : Sector) (q : Word32) (c : Nat), 1 ≤ n → s.openSector = some (y, q, c) →
          (x.failures = 0 → lines ≤ 256 - c → exec (.lineProgramDone (.reads bits)) s = .next (after
            (failed.set y { failed[y] with state := .opened q (c + lines), pending := failed[y].pending + lines })
            (.image w ⟨y, c⟩ 0 x.image.headerLine (array.readLine ⟨y, c⟩ &&& x.image.headerLine)))) ∧
          (x.failures = 1 ∨ (x.failures = 0 ∧ 256 - c < lines) →
            exec (.lineProgramDone (.reads bits)) s = .next (after failed (full y (.close w))))))) ∧
     (∀ (z y : Sector) (v : Word32) (c : Nat) (field : HeaderField) (pattern expected : HeaderLine) (readback : LineReadback),
       s.ops = [.header z field pattern expected] →
       field = .close w ∨ (field = .closeFailed w ∧ (x.failures = 1 ∨ x.failures = 2)) →
       s.sectors[z].state = .opened v c → (∀ z' : Sector, z' ≠ z → ¬ opened z') →
       s.sectors[y].state = .erased →
       (∀ y' : Sector, y' ≠ y → s.sectors[y'].state = .erased →
         s.sectors[y].eraseCount.toNat < s.sectors[y'].eraseCount.toNat ∨
           (s.sectors[y].eraseCount = s.sectors[y'].eraseCount ∧ y < y')) →
       (w = .host → ∃ y' : Sector, y' ≠ y ∧ s.sectors[y'].state = .erased) →
       exec (.lineProgramDone readback) s = .next
        { s with
          array := { s.array with headers := s.array.headers.set z (contentAfter readback s.array.headers[z] expected) }
          sectors := s.sectors.set z { s.sectors[z] with
            state := .full v
            stale := 255 - s.sectors[z].live - s.sectors[z].pending }
          openSequenceNext := if s.openSequenceNext = 0xFFFFFFFF then Config.openSequencePastLimit else s.openSequenceNext + 1
          ops := [.header y (.openSequence w s.openSequenceNext) (openSequencePattern s.openSequenceNext)
            (s.array.headers[y] &&& openSequencePattern s.openSequenceNext)] }) ∧
     (∀ (y : Sector) (q : Word32) (pattern expected : HeaderLine), s.ops = [.header y (.openSequence w q) pattern expected] →
       (∀ z : Sector, z ≠ y → ¬ opened z) → lines ≤ 255 →
       exec (.lineProgramDone .asExpected) s = .next
        { s with
          array := { s.array with headers := s.array.headers.set y expected }
          sectors := s.sectors.set y ⟨.opened q (1 + lines), s.sectors[y].eraseCount, 0, lines, 0⟩
          ops := [.image w ⟨y, 1⟩ 0 x.image.headerLine (s.array.readLine ⟨y, 1⟩ &&& x.image.headerLine)] }))

/-- The third failure of one image: LINE_PROGRAM_DONE with FAIL of a payload line, or, where the header line failed, with PASS or FAIL of its
sector's FULL mark. A READY store enters READ_ONLY with MEDIA and offers STORE_STATE to both links; one that is READ_ONLY already stays as it
is. The job in progress ends with MEDIA_FAIL and every queued job but a FORMAT with STORE_READ_ONLY, in queue order: each gives back its
reservation, its context or its hold and units, the images the job had programmed become stale, and JOB_DONE with generation 0 goes to each
origin in that order, after STORE_STATE. Directory, mark table, zone table and generation counter stay. A pass whose copy failed stops and
keeps its victim and cursor. In mount's sweep the pass stops so too and mount ends READ_ONLY with the cause it met first, else MEDIA, and
MOUNTED goes to both links (R14, R16, R19, R86, R89, R90, R105, R109, R128, R129, R146, R189). Model's choice: the FULL mark of a failed
header completes before the ladder stops (log entry 19), and the engine rests in IDLE with a FORMAT still queued (log entry 16). -/
def Obligations.ThirdFailureStopsTheStore : Prop :=
  ∀ (s : State) (w : Writer) (x : Writing), s.held = false → s.writing w = some x →
    (let lines := x.image.lines
     let ended : List (Job × JobResult) :=
       s.running.toList.map (fun r => (r.job, .mediaFail))
         ++ (s.queue.filter (fun j => decide (j.work ≠ .format))).map (fun j => (j, .storeReadOnly))
     let frees (h : Handle) : Bool := ended.any (fun p => decide (p.1.work = .commit h))
     let soloUnits (j : Job) : Nat := match j.work with
       | .soloWrite _ value => (value.length + 15) / 16
       | _ => 0
     let solo (j : Job) : Bool := match j.work with
       | .soloWrite _ _ => true
       | .soloDelete _ => true
       | _ => false
     let placed : List (Image × Loc) := match s.running with
       | some r => (s.jobImages r.job.work r.generation).zip r.placed
       | none => []
     let stopped : Option Pass := match w with
       | .host => s.pass
       | .reclaim => s.pass.map (fun p => { p with running := false, copy := none })
     let rests (queue : List Job) : Engine := if s.supply = .low ∧ (queue ≠ [] ∨ stopped ≠ none) then .paused else .idle
     let stops (array : CellArray) (sectors : Vector SectorRecord 32) (t : State) : Prop :=
       t.store = (if s.store = .ready then .readOnly .media else s.store) ∧ t.running = none ∧
       t.queue = s.queue.filter (fun j => decide (j.work = .format)) ∧ t.engine = rests t.queue ∧ t.pass = stopped ∧
       t.array = array ∧ t.ops = [] ∧
       (∀ z : Sector, (let dropped := ((placed.filter (fun p => decide (p.2.sector = z))).map (fun p => p.1.lines)).sum
         t.sectors[z] = { sectors[z] with pending := sectors[z].pending - dropped, stale := sectors[z].stale + dropped })) ∧
       t.reservedLines = s.reservedLines - (ended.map (fun p => p.1.lines)).sum ∧
       t.slotReservations = s.slotReservations - (ended.map (fun p => p.1.slots)).sum ∧
       (∀ h : Handle, t.context h = if frees h then .free else s.context h) ∧
       t.holds = s.holds.filter (fun p => match p.2 with
         | .context h => !frees h
         | .job ticket => !ended.any (fun q => solo q.1 && decide (q.1.ticket = ticket))) ∧
       t.poolFree = s.poolFree + ((List.finRange 4).map (fun h => if frees h then stagedUnits (s.context h).staged else 0)).sum
         + (ended.map (fun p => soloUnits p.1)).sum ∧
       (∀ l : Link, t.link l = (ended.filter (fun p => decide (p.1.origin = l))).foldl
         (fun f p => f.offer (.jobDone p.1.ticket p.1.work.kind p.2 0))
         (if s.store = .ready then (s.link l).offer (.storeState (.readOnly .media)) else s.link l)) ∧
       { t with
         store := s.store, running := s.running, queue := s.queue, engine := s.engine, pass := s.pass, array := s.array
         ops := s.ops, sectors := s.sectors, reservedLines := s.reservedLines, slotReservations := s.slotReservations
         contexts := s.contexts, holds := s.holds, poolFree := s.poolFree, lf0 := s.lf0, lf1 := s.lf1, attn := s.attn } = s
     let sweepEnds (m : MountRecord) (array : CellArray) (sectors : Vector SectorRecord 32) (t : State) : Prop :=
       t.store = .readOnly (m.cause.getD .media) ∧ t.mount = none ∧ t.engine = rests [] ∧ t.pass = stopped ∧
       t.array = array ∧ t.ops = [] ∧
       (∀ z : Sector, t.sectors[z] = match sectors[z].state with
         | .victim v => if z ∈ m.victims then { sectors[z] with state := .full v } else sectors[z]
         | _ => sectors[z]) ∧
       t.directory = s.directory ∧ t.marks = s.marks ∧ t.generationNext = s.generationNext ∧ t.epoch = s.epoch ∧
       ∀ l : Link, t.link l = (s.link l).offer (.mounted t.store (s.directory.countP (fun e => e.state == .live)) s.generationNext
         (sectors.toList.countP (fun r => !r.nonRetired)) s.epoch)
     let outcome (readback : LineReadback) (array : CellArray) (sectors : Vector SectorRecord 32) : Prop :=
       (s.store = .ready ∨ (∃ cause, s.store = .readOnly cause) → w = .host ∨ s.mount = none →
         ∃ t, exec (.lineProgramDone readback) s = .next t ∧ stops array sectors t) ∧
       (∀ m, w = .reclaim → s.store = .mounting → s.mount = some m → s.queue = [] →
         ∃ t, exec (.lineProgramDone readback) s = .next t ∧ sweepEnds m array sectors t)
     (∀ (start : Loc) (n : Nat) (pattern expected : Line) (bits : HeaderLine), s.ops = [.image w start n pattern expected] →
       s.array.readLine ⟨start.sector, start.line + n⟩ &&& bits.setWidth 128 ≠ expected → 1 ≤ n → x.failures = 2 →
       outcome (.reads bits)
         (s.array.writeLine ⟨start.sector, start.line + n⟩ (s.array.readLine ⟨start.sector, start.line + n⟩ &&& bits.setWidth 128))
         (s.sectors.set start.sector { s.sectors[start.sector] with
           pending := s.sectors[start.sector].pending - lines
           stale := s.sectors[start.sector].stale + lines })) ∧
     (∀ (z : Sector) (v : Word32) (c : Nat) (pattern expected : HeaderLine) (readback : LineReadback),
       s.ops = [.header z (.closeFailed w) pattern expected] → s.sectors[z].state = .opened v c → x.failures = 3 →
       outcome readback { s.array with headers := s.array.headers.set z (contentAfter readback s.array.headers[z] expected) }
         (s.sectors.set z { s.sectors[z] with
           state := .full v
           stale := 255 - s.sectors[z].live - s.sectors[z].pending })))

/-- LINE_PROGRAM_DONE with PASS of the last line of a SOLO_WRITE: its switch, in one event. The key's entry is LIVE at the image with the job's
generation and no other key's entry changes, what the job held is given back, JOB_DONE goes to the origin and then KEY_CHANGED to each link
that watches the key. Its lines become live, and those of a SOLO image it supersedes stale (R10, R14, R74, R76, R91, R193). Model's choice:
the engine rests with no job in progress and the queue as it was (log entry 16). -/
def Obligations.SoloWriteSwitches : Prop :=
  ∀ (s : State) (start : Loc) (n : Nat) (pattern expected : Line) (r : Running) (k : Key) (v : List Byte) (failures : Nat),
    s.held = false → s.store = .ready → s.ops = [.image .host start n pattern expected] → s.running = some r →
    r.job.work = .soloWrite k v → r.fold = none → r.placed = [] →
    r.writing = some ⟨⟨.value, .solo, k, r.generation, v⟩, none, failures⟩ → n = (v.length + 15) / 16 →
    r.generation.toNat + 1 < 0xFFFFFF00 →
    ∃ t, exec (.lineProgramDone .asExpected) s = .next t ∧
      t.lookup k = some ⟨k, .live, start, v.length, r.generation, .solo⟩ ∧ (∀ j, j ≠ k → t.lookup j = s.lookup j) ∧
      t.running = none ∧ t.ops = [] ∧ t.store = .ready ∧ t.queue = s.queue ∧ t.generationNext = s.generationNext ∧
      t.reservedLines = s.reservedLines - r.job.lines ∧ t.slotReservations = s.slotReservations - r.job.slots ∧
      t.poolFree = s.poolFree + (v.length + 15) / 16 ∧
      t.holds = s.holds.filter (fun p => decide (p.2 ≠ .job r.job.ticket)) ∧
      t.contexts = s.contexts ∧ t.zones = s.zones ∧ t.engine = (if s.supply = .low ∧ (s.queue ≠ [] ∨ s.pass ≠ none) then .paused else .idle) ∧
      (let lines := 1 + (v.length + 15) / 16
       let placed (x : Sector) : SectorRecord :=
         if x = start.sector then { s.sectors[x] with pending := s.sectors[x].pending - lines, live := s.sectors[x].live + lines }
         else s.sectors[x]
       (s.lookup k = none → t.marks = s.marks ∧ ∀ x : Sector, t.sectors[x] = placed x) ∧
       (∀ old, s.lookup k = some old → old.tagging = .solo → t.marks = s.marks ∧ ∀ x : Sector, t.sectors[x] =
         if x = old.loc.sector then
           { placed x with live := (placed x).live - old.lines, stale := (placed x).stale + old.lines }
         else placed x)) ∧
      (∀ l : Link, t.link l =
        (let told := if l = r.job.origin then (s.link l).offer (.jobDone r.job.ticket .soloWrite .ok r.generation) else s.link l
         if k ∈ (s.link l).watches then told.offer (.keyChanged k r.generation false) else told))

/-- LINE_PROGRAM_DONE with PASS of the MARK of a COMMIT: its switch, in one event. Each key of the staged list is LIVE or DELETED at its
image, TAGGED with the job's generation, and no other key's entry changes; the mark table gains the MARK with as many dependents as there
are keys; the context is FREE, and its holds, its units and the reservation are given back; JOB_DONE goes to the origin and then, in list
order, KEY_CHANGED to each link for each key it watches (R10, R44, R76, R83, R91, R193). Model's choice: the engine rests with no job in
progress and the queue as it was (log entry 16). -/
def Obligations.CommitSwitches : Prop :=
  ∀ (s : State) (h : Handle) (owner : Link) (timeout : Nat) (ticket : Ticket) (staged : List Staged) (start : Loc) (pattern expected : Line)
    (r : Running) (failures : Nat),
    s.held = false → s.store = .ready → s.ops = [.image .host start 0 pattern expected] → s.running = some r →
    r.job.work = .commit h → s.context h = .committing owner timeout staged ticket → 2 ≤ staged.length →
    staged.Pairwise (fun a b => a.key ≠ b.key) → r.placed.length = staged.length → r.fold = none →
    r.writing = some ⟨⟨.mark, .solo, 0, r.generation, []⟩, none, failures⟩ → r.generation.toNat + 1 < 0xFFFFFF00 →
    ∃ t, exec (.lineProgramDone .asExpected) s = .next t ∧
      (∀ (i : Nat) (a : Staged) (loc : Loc), staged[i]? = some a → r.placed[i]? = some loc →
        t.lookup a.key = some (match a.change with
          | .value bytes => ⟨a.key, .live, loc, bytes.length, r.generation, .tagged⟩
          | .delete => ⟨a.key, .deleted, loc, 0, r.generation, .tagged⟩)) ∧
      (∀ j, (∀ a ∈ staged, a.key ≠ j) → t.lookup j = s.lookup j) ∧
      (⟨r.generation, start, staged.length⟩ : MarkEntry) ∈ t.marks ∧
      t.context h = .free ∧ (∀ g : Handle, g ≠ h → t.context g = s.context g) ∧
      t.holds = s.holds.filter (fun p => decide (p.2 ≠ .context h)) ∧
      t.poolFree = s.poolFree + (staged.map (fun e => match e.change with
        | .value bytes => (bytes.length + 15) / 16
        | .delete => 0)).sum ∧
      t.reservedLines = s.reservedLines - r.job.lines ∧ t.slotReservations = s.slotReservations - r.job.slots ∧
      t.running = none ∧ t.ops = [] ∧ t.queue = s.queue ∧ t.zones = s.zones ∧ t.store = .ready ∧
      (∀ l : Link, t.link l =
        staged.foldl
          (fun f a => if a.key ∈ (s.link l).watches then f.offer (.keyChanged a.key r.generation (decide (a.change = .delete))) else f)
          (if l = r.job.origin then (s.link l).offer (.jobDone r.job.ticket .commit .ok r.generation) else s.link l))

/-- LINE_PROGRAM_DONE with PASS of the last line of a background pass's copy of a SOLO value, with a job queued: the repoint moves the key's
entry to the copy and leaves its generation and length, the source's lines become stale, and at this image boundary the pass suspends with
its cursor past the image and lets the engine go (R11, R104, R106). Model's choice: the engine rests in IDLE with the job still queued,
whose start is a step of its own (log entry 16). -/
def Obligations.CopyRepointsAndYields : Prop :=
  ∀ (s : State) (p : Pass) (start source : Loc) (n : Nat) (pattern expected : Line) (k : Key) (g : Gen) (v : List Byte) (failures : Nat)
    (e : DirEntry),
    s.held = false → s.store = .ready → s.supply = .normal → s.ops = [.image .reclaim start n pattern expected] →
    s.pass = some p → p.mode = .background → p.running = true → s.queue ≠ [] →
    p.copy = some ⟨⟨.value, .solo, k, g, v⟩, some source, failures⟩ → n = (v.length + 15) / 16 →
    s.lookup k = some e → e.loc = source → e.tagging = .solo → start.sector ≠ source.sector →
    (let lines := 1 + (v.length + 15) / 16
     ∃ t, exec (.lineProgramDone .asExpected) s = .next t ∧
      t.lookup k = some { e with loc := start } ∧ (∀ j, j ≠ k → t.lookup j = s.lookup j) ∧
      (∀ x : Sector, t.sectors[x] =
        if x = start.sector then { s.sectors[x] with pending := s.sectors[x].pending - lines, live := s.sectors[x].live + lines }
        else if x = source.sector then { s.sectors[x] with live := s.sectors[x].live - lines, stale := s.sectors[x].stale + lines }
        else s.sectors[x]) ∧
      t.pass = some { p with phase := .copying (source.line + lines), running := false, copy := none } ∧ t.engine = .idle ∧
      t.ops = [] ∧ t.queue = s.queue ∧ t.marks = s.marks ∧ t.holds = s.holds ∧ t.running = s.running ∧
      t.reservedLines = s.reservedLines ∧ t.generationNext = s.generationNext ∧ t.lf0 = s.lf0 ∧ t.lf1 = s.lf1)

/-- JOB_START of a SOLO_WRITE, a SOLO_DELETE or a ZONE_UPDATE with room in the OPEN sector: the head job leaves the queue, the engine is RUNNING,
the job takes the counter's generation and the counter advances, and the program of its one image starts at the cursor with its lines
pending (R3, R14, R62, R72, R74, R75, R77). Model's choice: the bits of the header line, the bytes of the zone record, and that the counter
stays at its highest value (log entries 9, 11 and 29). -/
def Obligations.SingleImageJobStarts : Prop :=
  ∀ (s : State) (j : Job) (rest : List Job) (image : Image) (x : Sector) (q : Word32) (c : Nat),
    s.held = false → s.engine = .idle → s.supply = .normal → s.store = .ready → s.queue = j :: rest →
    ((∃ k v, j.work = .soloWrite k v ∧ image = ⟨.value, .solo, k, s.generationNext, v⟩) ∨
     (∃ k, j.work = .soloDelete k ∧ image = ⟨.tombstone, .solo, k, s.generationNext, []⟩) ∨
     (∃ table, j.work = .zoneUpdate table ∧ image = ⟨.value, .solo, 0xFFE0, s.generationNext, zoneRecord table⟩)) →
    s.openSector = some (x, q, c) → 1 + (image.value.length + 15) / 16 ≤ 256 - c →
    (let lines := 1 + (image.value.length + 15) / 16
     exec .jobStart s = .next
      { s with
        queue := rest
        engine := .running
        generationNext := if s.generationNext = 0xFFFFFFFF then 0xFFFFFFFF else s.generationNext + 1
        running := some ⟨j, s.generationNext, [], some ⟨image, none, 0⟩, none, 0⟩
        sectors := s.sectors.set x { s.sectors[x] with
          state := .opened q (c + lines)
          pending := s.sectors[x].pending + lines }
        ops := s.ops ++ [.image .host ⟨x, c⟩ 0 image.headerLine (s.array.readLine ⟨x, c⟩ &&& image.headerLine)] })

/-- JOB_START of a COMMIT. With one entry, or with fewer than 16 marks, and room in the OPEN sector, the program of its first entry's image
starts, SOLO for a list of one entry and TAGGED for more. With two or more entries and 16 marks the engine is FOLDING: the subject is a mark
of the lowest generation, and the program of a SOLO copy of the first key that still depends on it starts (R62, R72, R73, R75, R84). Model's
choice: the bits of the header line, and that the counter stays at its highest value (log entries 9 and 29). -/
def Obligations.CommitStarts : Prop :=
  ∀ (s : State) (j : Job) (rest : List Job) (h : Handle) (owner : Link) (timeout : Nat) (a : Staged) (more : List Staged) (ticket : Ticket)
    (x : Sector) (q : Word32) (c : Nat),
    s.held = false → s.engine = .idle → s.supply = .normal → s.store = .ready → s.queue = j :: rest → j.work = .commit h →
    s.context h = .committing owner timeout (a :: more) ticket → s.openSector = some (x, q, c) →
    (let started (engine : Engine) (fold : Option Fold) (image : Image) (source : Option Loc) : State :=
       let lines := 1 + (image.value.length + 15) / 16
       { s with
         queue := rest
         engine := engine
         generationNext := if s.generationNext = 0xFFFFFFFF then 0xFFFFFFFF else s.generationNext + 1
         running := some ⟨j, s.generationNext, [], some ⟨image, source, 0⟩, fold, 0⟩
         sectors := s.sectors.set x { s.sectors[x] with
           state := .opened q (c + lines)
           pending := s.sectors[x].pending + lines }
         ops := s.ops ++ [.image .host ⟨x, c⟩ 0 image.headerLine (s.array.readLine ⟨x, c⟩ &&& image.headerLine)] }
     (more = [] ∨ s.marks.length < 16 →
       (let image : Image := match a.change with
          | .value bytes => ⟨.value, if more = [] then .solo else .tagged, a.key, s.generationNext, bytes⟩
          | .delete => ⟨.tombstone, if more = [] then .solo else .tagged, a.key, s.generationNext, []⟩
        1 + (image.value.length + 15) / 16 ≤ 256 - c → exec .jobStart s = .next (started .running none image none))) ∧
     (∀ (m : MarkEntry) (e : DirEntry), more ≠ [] → 16 ≤ s.marks.length → m ∈ s.marks →
       (∀ n ∈ s.marks, m.generation.toNat ≤ n.generation.toNat) →
       s.directory.find? (fun d => decide (d.generation = m.generation ∧ d.tagging = .tagged)) = some e →
       (let image : Image := match e.state with
          | .live => ⟨.value, .solo, e.key, m.generation, s.array.readValue e.loc e.length⟩
          | .deleted => ⟨.tombstone, .solo, e.key, m.generation, []⟩
        1 + (image.value.length + 15) / 16 ≤ 256 - c →
          exec .jobStart s = .next (started .folding (some ⟨m.generation, 0⟩) image (some e.loc)))))

/-- JOB_START of a FORMAT: the store is FORMATTING under the next epoch, directory, mark table and zone table are empty, live lines become
stale, a suspended pass is abandoned, every OPEN context becomes FREE with its holds released and its units returned, STORE_STATE and then
each TXN_EXPIRED in ascending handle order go out, and the first non-retired sector is erased; the generation and open-sequence counters
stay (R39, R72, R79, R80, R189). -/
def Obligations.FormatStarts : Prop :=
  ∀ (s : State) (j : Job) (y : Sector),
    s.held = false → s.engine = .idle → s.supply = .normal → s.queue = [j] → j.work = .format →
    s.sectors[y].nonRetired = true → (∀ z : Sector, z < y → s.sectors[z].nonRetired = false) →
    (let open' (h : Handle) : Bool := match s.context h with
       | .opened .. => true
       | _ => false
     ∃ t, exec .jobStart s = .next t ∧ t.store = .formatting ∧ t.epoch = s.epoch + 1 ∧ t.directory = [] ∧ t.marks = [] ∧
      (∀ i : Fin 8, t.zones[i] = none) ∧ t.pass = none ∧ t.queue = [] ∧ t.engine = .running ∧
      t.running = some ⟨j, 0, [], none, none, y.val + 1⟩ ∧ t.ops = s.ops ++ [.erase y .format] ∧ t.array = s.array ∧
      t.generationNext = s.generationNext ∧ t.openSequenceNext = s.openSequenceNext ∧
      (∀ x : Sector, t.sectors[x] = { s.sectors[x] with live := 0, stale := s.sectors[x].stale + s.sectors[x].live }) ∧
      (∀ h : Handle, t.context h = if open' h then .free else s.context h) ∧
      t.holds = s.holds.filter (fun p => match p.2 with
        | .context h => !open' h
        | .job _ => true) ∧
      t.poolFree = s.poolFree + ((List.finRange 4).map (fun h => if open' h then stagedUnits (s.context h).staged else 0)).sum ∧
      ∀ l : Link, t.link l = ((List.finRange 4).filter (fun h => (s.context h).openFor l)).foldl (fun f h => f.offer (.txnExpired h))
        ((s.link l).offer (.storeState .formatting)))

/-- JOB_START of a RECLAIM_REQ: with no suspended pass and no eligible sector with a stale line it ends at once with OK and generation 0; with no
suspended pass, a pass in mode URGENT takes the eligible sector with the most stale lines, then the lower erase count, then the lower index,
and its VICTIM mark is requested; a suspended pass is resumed in mode URGENT: before its VICTIM mark, with its erase, or at line 256,
where its walk ends and it enters ERASING (R78, R90, R94, R97, R99). Model's choice: the bits of the VICTIM mark (log entry 15), the engine
resting in IDLE where the job ends (log entry 16), and the pause point after the walk's end as an event of its own (log entry 28). -/
def Obligations.ReclaimRequestStarts : Prop :=
  ∀ (s : State) (j : Job) (rest : List Job),
    s.held = false → s.engine = .idle → s.supply = .normal → s.store = .ready → s.running = none → s.queue = j :: rest →
    j.work = .reclaimReq → j.lines = 0 → j.slots = 0 →
    (let eligible (x : Sector) : Prop := (∃ q, s.sectors[x].state = .full q) ∧ s.sectors[x].pending = 0
     let passing (p : Pass) (op : ArrayOp) : State :=
       { s with
         queue := rest
         running := some ⟨j, 0, [], none, none, 0⟩
         pass := some p
         engine := .reclaiming .urgent
         ops := s.ops ++ [op] }
     let mark (v : Sector) : ArrayOp := .header v .victimMark victimPattern (s.array.headers[v] &&& victimPattern)
     (s.pass = none → (∀ x : Sector, eligible x → s.sectors[x].stale = 0) →
       exec .jobStart s = .next (({ s with queue := rest } : State).offer j.origin (.jobDone j.ticket .reclaimReq .ok 0))) ∧
     (∀ v : Sector, s.pass = none → eligible v → 1 ≤ s.sectors[v].stale →
       (∀ y : Sector, eligible y → y ≠ v → s.sectors[y].stale < s.sectors[v].stale ∨
         (s.sectors[y].stale = s.sectors[v].stale ∧ (s.sectors[v].eraseCount.toNat < s.sectors[y].eraseCount.toNat ∨
           (s.sectors[y].eraseCount = s.sectors[v].eraseCount ∧ v < y)))) →
       exec .jobStart s = .next (passing ⟨.marking, v, .urgent, true, none⟩ (mark v))) ∧
     (∀ p : Pass, s.pass = some p →
       (p.phase = .marking → exec .jobStart s = .next (passing { p with mode := .urgent, running := true } (mark p.victim))) ∧
       (p.phase = .erasing → exec .jobStart s = .next (passing { p with mode := .urgent, running := true } (.erase p.victim .reclaim))) ∧
       (p.phase = .copying 256 → exec .jobStart s = .next
         { s with
           queue := rest
           running := some ⟨j, 0, [], none, none, 0⟩
           pass := some { p with mode := .urgent, running := true, phase := .erasing }
           engine := .reclaiming .urgent })))

/-- BACKGROUND_PASS_START with the trigger holding, by the space condition or by the wear condition: the pass takes an eligible sector in MARKING
and its VICTIM mark is requested. While the erase-count spread is below 256 it is the one with the most stale lines, then the lower erase
count, then the lower index; at a spread of 256 or more, the one with the lowest erase count, then the most stale lines, then the lower
index (R94, R95, R96, R98). Model's choice: the bits of the VICTIM mark (log entry 15), and that one eligible sector among several with the
lowest erase count meets the wear condition (log entry 20). -/
def Obligations.BackgroundPassTakesItsVictim : Prop :=
  ∀ s : State, s.held = false → s.engine = .idle → s.supply = .normal → s.store = .ready → s.queue = [] → s.pass = none →
    (let count (x : Sector) : Nat := s.sectors[x].eraseCount.toNat
     let stale (x : Sector) : Nat := s.sectors[x].stale
     let used (x : Sector) : Prop := s.sectors[x].nonRetired = true
     let eligible (x : Sector) : Prop := (∃ q, s.sectors[x].state = .full q) ∧ s.sectors[x].pending = 0
     let worn : Prop := ∃ x y : Sector, used x ∧ used y ∧ count x + 256 ≤ count y
     let taken (v : Sector) : Prop := exec .backgroundPassStart s = .next
       { s with
         pass := some ⟨.marking, v, .background, true, none⟩
         engine := .reclaiming .background
         ops := s.ops ++ [.header v .victimMark victimPattern (s.array.headers[v] &&& victimPattern)] }
     ((s.erasedSectors.length ≤ 2 ∧ ∃ x : Sector, eligible x ∧ 64 ≤ stale x) ∨
      (worn ∧ ∃ x : Sector, eligible x ∧ ∀ y : Sector, used y → count x ≤ count y)) →
     (¬ worn → ∃ v : Sector, eligible v ∧ taken v ∧ ∀ y : Sector, eligible y → y ≠ v →
       stale y < stale v ∨ (stale y = stale v ∧ (count v < count y ∨ (count y = count v ∧ v < y)))) ∧
     (worn → ∃ v : Sector, eligible v ∧ taken v ∧ ∀ y : Sector, eligible y → y ≠ v →
       count v < count y ∨ (count v = count y ∧ (stale y < stale v ∨ (stale y = stale v ∧ v < y)))))

/-- A pass, image by image. PASS_RESUME, with the engine IDLE, the queue empty, the supply NORMAL and the store READY: a suspended pass goes on
in BACKGROUND from where it stopped: before its VICTIM mark; with the erase after its walk; or with the image at its cursor. There a line that
holds no valid image header, or line 256, ends the walk and the pass enters ERASING. An image that neither the directory nor the mark table
points at is skipped. A SOLO tombstone of the oldest sector whose DELETED entry points there and whose key has no holder is dropped. Any other
image that is pointed at is copied, SOLO, into the OPEN sector with room. After a skip, a drop and the walk's end the pass comes to a pause
point: in LOW it stops there and the engine is PAUSED, a background pass suspends there for a queued job, and otherwise it goes on by the same
rule (R99 to R103, R106, R107, R147, R150). Model's choice: the arrival at that pause point is an event of its own, a step that finds no command
waiting, unless a JOB_START takes the array that a background pass gives back there, or a completion of the next operation shows that the pass
has gone on (log entry 28); the bits of the VICTIM mark and of the image header (log entries 9 and 15). -/
def Obligations.PassWalksImageByImage : Prop :=
  ∀ (s : State) (p : Pass), s.held = false → s.pass = some p →
    (let going (mode : PassMode) (phase : PassPhase) : State :=
       { s with pass := some { p with phase := phase, mode := mode, running := true }, engine := .reclaiming mode }
     let goesOn (out : Host.Outcome State Fault Refusal) (mode : PassMode) : Prop :=
       (p.phase = .erasing → out = .next { going mode .erasing with ops := s.ops ++ [.erase p.victim .reclaim] }) ∧
       (∀ c, p.phase = .copying c → 256 ≤ c → out = .next (going mode .erasing)) ∧
       (∀ c, p.phase = .copying c → 1 ≤ c → c ≤ 255 →
         (let here : Loc := ⟨p.victim, c⟩
          let pointed (h : ImageHeader) : Prop := match h.kind with
            | .mark => ∃ m ∈ s.marks, m.loc = here
            | _ => ∃ e, s.lookup h.key = some e ∧ e.loc = here
          ((∀ h, readImageHeader (s.array.readLine here) c ≠ .image h) → out = .next (going mode .erasing)) ∧
          (∀ h, readImageHeader (s.array.readLine here) c = .image h →
            (¬ pointed h → out = .next (going mode (.copying (c + h.lines)))) ∧
            (∀ e, h.kind = .tombstone → h.tagging = .solo → s.isOldest p.victim = true → s.lookup h.key = some e → e.loc = here →
              e.state = .deleted → e.tagging = .solo → s.holder h.key = none →
              out = .next
                { going mode (.copying (c + 1)) with
                  directory := s.directory.filter (fun d => decide (d.key ≠ h.key))
                  sectors := s.sectors.set p.victim { s.sectors[p.victim] with
                    live := s.sectors[p.victim].live - 1
                    stale := s.sectors[p.victim].stale + 1 } }) ∧
            (∀ x q w, pointed h → (h.kind = .tombstone → h.tagging = .solo → s.isOldest p.victim = true → s.holder h.key ≠ none) →
              s.openSector = some (x, q, w) → h.lines ≤ 256 - w →
              (let image : Image :=
                 ⟨h.kind, .solo, h.key, h.generation, if h.kind = .value then s.array.readValue here h.length else []⟩
               out = .next
                { s with
                  pass := some ⟨.copying c, p.victim, mode, true, some ⟨image, some here, 0⟩⟩
                  engine := .reclaiming mode
                  sectors := s.sectors.set x { s.sectors[x] with
                    state := .opened q (w + h.lines)
                    pending := s.sectors[x].pending + h.lines }
                  ops := s.ops ++
                    [.image .reclaim ⟨x, w⟩ 0 image.headerLine (s.array.readLine ⟨x, w⟩ &&& image.headerLine)] })))))
     (s.engine = .idle → s.supply = .normal → s.store = .ready → s.queue = [] → p.running = false →
       (p.phase = .marking → exec .passResume s = .next
         { going .background .marking with
           ops := s.ops ++ [.header p.victim .victimMark victimPattern (s.array.headers[p.victim] &&& victimPattern)] }) ∧
       goesOn (exec .passResume s) .background) ∧
     (s.pending = [] → s.engine = .reclaiming p.mode → p.running = true → p.copy = none →
       (∃ c, p.phase = .copying c) ∨ (p.phase = .erasing ∧ ∀ x, ArrayOp.erase x .reclaim ∉ s.ops) →
       (∀ cause, s.store = .readOnly cause → ∀ j ∈ s.queue, j.work = .format) →
       (s.supply = .low → step s = .next { s with pass := some { p with running := false }, engine := .paused }) ∧
       (s.supply = .normal → p.mode = .background → s.queue ≠ [] →
         step s = .next { s with pass := some { p with running := false }, engine := .idle } ∧
         exec .jobStart s = exec .jobStart { s with pass := some { p with running := false }, engine := .idle }) ∧
       (s.supply = .normal → p.mode = .urgent ∨ s.queue = [] →
         goesOn (step s) p.mode ∧
         (∀ t, s.ops = [] → step s = .next t →
           (∀ start n pattern expected readback, t.ops = [.image .reclaim start n pattern expected] →
             exec (.lineProgramDone readback) s = exec (.lineProgramDone readback) t) ∧
           (∀ x, t.ops = [.erase x .reclaim] → exec (.sectorEraseDone .asExpected) s = exec (.sectorEraseDone .asExpected) t)))))

/-! ### Session and information requests -/

/-- HELLO with a mask whose three high bits are clear: the link's OPEN contexts become FREE, its watch table is emptied, queued notices
other than JOB_DONE and one begun are discarded and the backlog takes the slots, sequence and lost count are 0, the mask is set, and the
reply gives identity, store state, counters and the number of contexts aborted (R47, R166, R167, R184). Model's choice: the backlog takes
the freed slots after sequence and lost count are 0 (log entry 14), and a notice has begun once its first byte is complete, so a head notice
whose first byte is still shifting out is discarded (log entry 34). -/
def Obligations.HelloRestartsTheSession : Prop :=
  ∀ (s : State) (l : Link) (r : Request) (m : Byte), s.serving l r → r.typ = 0x01 → r.payload = [m] → m.toNat < 0x20 →
    (let aborted := (List.finRange 4).filter (fun h => (s.context h).openFor l)
     let freed := aborted.foldl State.freeContext s
     let f := s.link l
     let kept := f.out.take (if f.sent = 0 then 0 else 1)
       ++ (f.out.drop (if f.sent = 0 then 0 else 1)).filter (fun q => decide (0x80 ≤ q.typ.toNat) || decide (q.typ = 0x61))
     let link : Framer :=
       { f with watches := [], out := kept, sequence := 0, lost := 0, mask := m.extractLsb' 0 5, retry := none }
     exec .hello s = .next ((freed.setLink l link.drainBacklog).answered l r
       ([0x00, 0x0A, 0x17, 0x32, 0x08, 0x01, 32, 0x01, 0x00, 16, 0x02, 0x00, 0x01, 0x00, 4, 0x01, 0x00] ++ [s.store.code]
         ++ be32 s.generationNext ++ be32 s.epoch ++ [BitVec.ofNat 8 aborted.length])))

/-- STAT and SECTORS: the replies carry the figures of one event in the order of section 10.9, STAT the store's, SECTORS 32 records in index
order with state, erase count, live, stale and free lines, and nothing changes (R170, R171, R184). -/
def Obligations.StatAndSectorsReport : Prop :=
  ∀ (s : State) (l : Link) (r : Request) (wp : Wp), s.serving l r → r.payload = [] →
    (r.typ = 0x02 → exec (.stat wp) s = .next (s.answered l r
      ([0x00, s.store.code, s.store.causeCode] ++ be16Nat s.liveLines ++ be16Nat s.reservedLines ++ be16Nat s.staleLines
        ++ be16Nat s.freeLines ++ be16Nat s.liveCapacity ++ be16Nat s.directory.length ++ be16Nat s.slotReservations
        ++ be16Nat s.poolFree
        ++ [BitVec.ofNat 8 s.queue.length, s.engine.code,
            (match s.engine with
              | .reclaiming .background => 1
              | .reclaiming .urgent => 2
              | _ => 0),
            BitVec.ofNat 8 s.marks.length, sectorCode (s.openSector.map (·.1)), sectorCode s.reserveSector,
            (match s.pass with
              | some p => p.phase.code
              | none => 0),
            sectorCode (s.pass.map (·.victim)), (if s.supply = .low then 1 else 0), (if wp = .asserted then 1 else 0)]))) ∧
    (r.typ = 0x03 → exec .sectors s = .next (s.answered l r (0x00 :: (List.finRange 32).flatMap (fun (x : Sector) =>
      [s.sectors[x].state.code] ++ be32 s.sectors[x].eraseCount
        ++ [BitVec.ofNat 8 s.sectors[x].live, BitVec.ofNat 8 s.sectors[x].stale, BitVec.ofNat 8 s.sectors[x].free]))))

/-- LINKSTAT: the five counters, the watch count and the mask of the link the request names, whichever link asks (R165, R172). -/
def Obligations.LinkstatReportsTheNamedLink : Prop :=
  ∀ (s : State) (l named : Link) (r : Request), s.serving l r → r.typ = 0x04 →
    r.payload = [if named = .link0 then 0 else 1] →
    (let f := s.link named
     exec .linkstat s = .next (s.answered l r
      ([0x00, if named = .link0 then 0 else 1] ++ be32 f.goodFrames ++ be32 f.checkErrors ++ be32 f.cutFrames ++ be32 f.dropped
        ++ be32 f.lostNotices ++ [BitVec.ofNat 8 f.watches.length, f.mask.setWidth 8])))

/-- NOTICES sets the link's mask and changes nothing else (R178). -/
def Obligations.NoticesSetsTheMask : Prop :=
  ∀ (s : State) (l : Link) (r : Request) (m : Byte), s.serving l r → r.typ = 0x31 → r.payload = [m] →
    exec .notices s = .next (if 0x20 ≤ m.toNat then s.answered l r [0x11]
      else (s.setLink l { s.link l with mask := m.extractLsb' 0 5 }).answered l r [0x00])

/-- BAD_TYPE: a TYPE that is not one of the twenty is answered with STATUS 0x10, under TYPE plus 0x80 or, from 0x80 on, the TYPE as received,
and nothing else changes (R168). -/
def Obligations.UnknownTypeRefused : Prop :=
  ∀ (s : State) (l : Link) (r : Request), s.serving l r →
    r.typ.toNat ∉ [0x01, 0x02, 0x03, 0x04, 0x10, 0x11, 0x12, 0x13, 0x20, 0x21, 0x22, 0x23, 0x24, 0x25, 0x30, 0x31, 0x38, 0x39, 0x3A, 0x3F] →
    (let frame : Frame := ⟨r.tag, if r.typ.toNat < 0x80 then r.typ + 0x80 else r.typ, [0x10]⟩
     exec .badType s = .next
      { s.setLink l
          { s.link l with
            fifo := (s.link l).fifo.tail
            inService := none
            out := (s.link l).out ++ [frame]
            reservations := (s.link l).reservations - 1
            retry := some ⟨r.tag, r.typ, frame⟩ }
        with lastServed := l })

/-! ### Record requests -/

/-- READ in view COMMITTED: a LIVE key gives its generation, clear flags, length and value bytes; an absent or DELETED key gives NOT_FOUND;
the gate and key steps come first; nothing changes (R1, R8, R21, R173). Model's choice: the byte an unwritten address reads as is the
erased byte of a blank array (log entry 8). -/
def Obligations.ReadCommittedAnswersFromTheDirectory : Prop :=
  ∀ (s : State) (l : Link) (r : Request) (k : Key) (handle : List Byte), s.serving l r → r.typ = 0x10 →
    r.payload = be16 k ++ [0] ++ handle → handle.length ≤ 1 →
    exec .readCommitted s = .next (s.answered l r
      (if k = 0 ∨ k = 0xFFFF then [0x12]
       else if 0xFF00 ≤ k.toNat then [0x13]
       else if s.store.readable = false then [0x43]
       else match s.directory.find? (fun e => e.key == k) with
        | some e =>
          if e.state = .live then
            [0x00] ++ be32 e.generation ++ [0x00] ++ be16Nat e.length
              ++ (List.range e.length).map (fun i => s.array.cells.read (e.loc.sector.val * 4096 + e.loc.line * 16 + 16 + i))
          else [0x20]
        | none => [0x20]))

/-- LIST: up to max LIVE user entries from the start key in key order, and the key of the first one after them, or 0; nothing changes
(R9, R174). -/
def Obligations.ListWalksInKeyOrder : Prop :=
  ∀ (s : State) (l : Link) (r : Request) (start : Key) (max : Byte), s.serving l r → r.typ = 0x11 →
    r.payload = be16 start ++ [max] → 1 ≤ max.toNat → max.toNat ≤ 32 → userKey start → s.store.readable = true →
    (let from' := s.directory.filter (fun e => decide (start.toNat ≤ e.key.toNat) && decide (e.key.toNat ≤ 0xFEFF) && (e.state == .live))
     let found := from'.take max.toNat
     exec .list s = .next (s.answered l r
      ([0x00, BitVec.ofNat 8 found.length]
        ++ found.flatMap (fun e => be16 e.key ++ be16Nat e.length ++ be32 e.generation)
        ++ be16 (match from'.drop max.toNat with
          | e :: _ => e.key
          | [] => 0))))

/-- WRITE by the table of R175 and DELETE by the steps of R176: the first step that refuses decides the STATUS and nothing else happens. When none
does, a SOLO_WRITE job is accepted with the next ticket, n lines, s slots, the key's hold and the value's units, or a SOLO_DELETE job with the
next ticket, 1 line and the key's hold. -/
def Obligations.WriteAndDeleteByTheirSteps : Prop :=
  ∀ (s : State) (l : Link) (r : Request) (wp : Wp) (k : Key), s.serving l r →
    (let keys : List (Bool × Byte) := [(decide (k = 0 ∨ k = 0xFFFF), 0x12), (decide (0xFF00 ≤ k.toNat), 0x13)]
     let gate : List (Bool × Byte) :=
       [(decide (s.store ≠ .ready ∧ s.store.readable = true), 0x42), (decide (s.store.readable = false), 0x43),
        (decide (s.supply = .low), 0x41),
        (decide (s.writeCheck l wp k = some .frozen), 0x51), (decide (s.writeCheck l wp k = some .isProtected), 0x50),
        (s.holds.any (fun p => p.1 == k), 0x21)]
     let queueStep : List (Bool × Byte) := [(decide (8 ≤ s.queue.length ∨ ∃ j ∈ s.queue, j.work = .format), 0x40)]
     let nextTicket : Ticket := if s.nextTicket = 0xFFFF then 1 else s.nextTicket + 1
     (∀ (len : BitVec 16) (v : List Byte), r.typ = 0x12 → r.payload = be16 k ++ be16 len ++ v →
       (let units := (v.length + 15) / 16
        let slots := if (s.lookup k).isNone then 1 else 0
        exec (.write wp) s = .next
         (match firstOf
           ([(decide (256 < len.toNat), 0x14), (decide (v.length ≠ len.toNat), 0x11)] ++ keys ++ gate
             ++ [(decide (s.liveCapacity < s.liveLines + s.reservedLines + (1 + units)), 0x23),
                 (decide (512 < s.directory.length + s.slotReservations + slots), 0x22),
                 (decide (s.poolFree < units), 0x34)] ++ queueStep) with
           | some code => s.answered l r [code]
           | none =>
             ({ s with
               queue := s.queue ++ [⟨s.nextTicket, .soloWrite k v, l, 1 + units, slots⟩]
               nextTicket := nextTicket
               reservedLines := s.reservedLines + (1 + units)
               slotReservations := s.slotReservations + slots
               holds := s.holds ++ [(k, .job s.nextTicket)]
               poolFree := s.poolFree - units } : State).answered l r ([0x01] ++ be16 s.nextTicket)))) ∧
     (r.typ = 0x13 → r.payload = be16 k →
       exec (.delete wp) s = .next
        (match firstOf
          (keys ++ gate
            ++ [(!(s.lookup k).any (fun e => e.state == .live), 0x20),
                (decide (s.liveCapacity < s.liveLines + s.reservedLines + 1), 0x23)] ++ queueStep) with
          | some code => s.answered l r [code]
          | none =>
            ({ s with
              queue := s.queue ++ [⟨s.nextTicket, .soloDelete k, l, 1, 0⟩]
              nextTicket := nextTicket
              reservedLines := s.reservedLines + 1
              holds := s.holds ++ [(k, .job s.nextTicket)] } : State).answered l r ([0x01] ++ be16 s.nextTicket))))

/-- The write check of R133 on a key in exactly one defined zone, and on a key in none. -/
def Obligations.WriteCheckByTheZone : Prop :=
  ∀ (s : State) (l : Link) (wp : Wp) (k : Key),
    ((∀ (i : Fin 8) (z : Zone), s.zones[i] = some z → ¬(z.low.toNat ≤ k.toNat ∧ k.toNat ≤ z.high.toNat)) →
      s.writeCheck l wp k = none) ∧
    (∀ (i : Fin 8) (z : Zone), s.zones[i] = some z → z.low.toNat ≤ k.toNat → k.toNat ≤ z.high.toNat →
      (∀ (j : Fin 8) (w : Zone), j ≠ i → s.zones[j] = some w → ¬(w.low.toNat ≤ k.toNat ∧ k.toNat ≤ w.high.toNat)) →
      s.writeCheck l wp k =
        if z.frozen = true then some .frozen
        else if (if l = .link0 then z.link0Write else z.link1Write) = false then some .isProtected
        else if z.guarded = true ∧ wp = .asserted then some .isProtected
        else none)

/-! ### Transaction requests -/

/-- BEGIN: a timeout of 0 stands for 5000 ms; the FREE context with the lowest handle becomes OPEN for the link with its timer at 0; with no
FREE context the request ends with NO_CONTEXT (R25). -/
def Obligations.BeginOpensTheLowestFree : Prop :=
  ∀ (s : State) (l : Link) (r : Request) (t : BitVec 16), s.serving l r → r.typ = 0x20 → r.payload = be16 t →
    (t = 0 ∨ (100 ≤ t.toNat ∧ t.toNat ≤ 60000)) → s.store.readable = true →
    (∀ h : Handle, s.context h = .free → (∀ g : Handle, g < h → s.context g ≠ .free) →
      exec .begin s = .next ((s.setContext h (.opened l (if t = 0 then 5000 else t.toNat) 0 [])).answered l r
        [0x00, BitVec.ofNat 8 (h.val + 1)])) ∧
    ((∀ h : Handle, s.context h ≠ .free) → exec .begin s = .next (s.answered l r [0x30]))

/-- The handle step (R24) of every request that names a handle: a handle outside 1 to 4, or of a context that is FREE or the other link's, is
BAD_HANDLE and changes nothing. A COMMITTING context of the link is TXN_STATE for STAGE, UNSTAGE, COMMIT and ABORT, and READ in view OWN accepts
it and shows its staged list; what TXNINFO answers there is stated in OwnViewAndTxninfoShowTheContext. -/
def Obligations.HandleStepByTheContext : Prop :=
  ∀ (s : State) (l : Link) (r : Request) (b : Byte) (wp : Wp), s.serving l r → s.store.readable = true →
    (let staging : Prop := r.typ = 0x21 ∧ ∃ (k : Key) (kind : Byte) (v : List Byte), userKey k ∧ v.length ≤ 256 ∧
       (kind = 0 ∨ (kind = 1 ∧ v = [])) ∧ r.payload = [b] ++ be16 k ++ [kind] ++ be16Nat v.length ++ v
     let unstaging : Prop := r.typ = 0x22 ∧ ∃ k : Key, k ≠ 0 ∧ k ≠ 0xFFFF ∧ r.payload = [b] ++ be16 k
     let reading (k : Key) : Prop := r.typ = 0x10 ∧ userKey k ∧ r.payload = be16 k ++ [1, b]
     ((∀ h : Handle, h.val + 1 = b.toNat → (s.context h).owner ≠ some l) →
       (staging → exec (.stage wp) s = .next (s.answered l r [0x31])) ∧
       (unstaging → exec .unstage s = .next (s.answered l r [0x31])) ∧
       (∀ k, reading k → exec .readOwn s = .next (s.answered l r [0x31])) ∧
       (r.typ = 0x23 → r.payload = [b] → exec (.commit wp) s = .next (s.answered l r [0x31])) ∧
       (r.typ = 0x24 → r.payload = [b] → exec .abort s = .next (s.answered l r [0x31])) ∧
       (r.typ = 0x25 → r.payload = [b] → exec .txninfo s = .next (s.answered l r [0x31]))) ∧
     (∀ (h : Handle) (timeout : Nat) (staged : List Staged) (ticket : Ticket), h.val + 1 = b.toNat →
       s.context h = .committing l timeout staged ticket →
       (staging → exec (.stage wp) s = .next (s.answered l r [0x32])) ∧
       (unstaging → exec .unstage s = .next (s.answered l r [0x32])) ∧
       (r.typ = 0x23 → r.payload = [b] → exec (.commit wp) s = .next (s.answered l r [0x32])) ∧
       (r.typ = 0x24 → r.payload = [b] → exec .abort s = .next (s.answered l r [0x32])) ∧
       (∀ k, reading k → exec .readOwn s = .next (s.answered l r (match staged.find? (fun e => e.key == k) with
         | some ⟨_, .value bytes, base⟩ => [0x00] ++ be32 (base.getD 0) ++ [0x01] ++ be16Nat bytes.length ++ bytes
         | some ⟨_, .delete, _⟩ => [0x20, 0x02]
         | none => (s.readCommitted k).status.code :: (s.readCommitted k).fields)))))

/-- STAGE into an OPEN context of the link, by the steps of R27 from its zone step on: a refusal restarts the timer and changes nothing else. A
taken STAGE records the hold, moves the units, and replaces the key's entry where it stands or appends it, with the base generation of the key's
entry (R28, R29, R30, R38). -/
def Obligations.StageByItsSteps : Prop :=
  ∀ (s : State) (l : Link) (r : Request) (wp : Wp) (k : Key) (c : Change) (v : List Byte) (h : Handle) (timeout idle : Nat)
    (staged : List Staged), s.serving l r → r.typ = 0x21 →
    (c = .value v ∨ (c = .delete ∧ v = [])) → v.length ≤ 256 →
    r.payload = [BitVec.ofNat 8 (h.val + 1)] ++ be16 k ++ [if c = .delete then 1 else 0] ++ be16Nat v.length ++ v →
    userKey k → s.store.readable = true → s.context h = .opened l timeout idle staged →
    (let units := (v.length + 15) / 16
     let old := match staged.find? (fun e => e.key == k) with
       | some ⟨_, .value bytes, _⟩ => (bytes.length + 15) / 16
       | _ => 0
     let entry : Staged := ⟨k, c, (s.lookup k).map (·.generation)⟩
     let listed := staged.any (fun e => e.key == k)
     let after := if listed then staged.map (fun e => if e.key = k then entry else e) else staged ++ [entry]
     exec (.stage wp) s = .next
      (match firstOf
        [(decide (s.writeCheck l wp k = some .frozen), 0x51), (decide (s.writeCheck l wp k = some .isProtected), 0x50),
         (decide (s.holder k ≠ none ∧ s.holder k ≠ some (.context h)), 0x21),
         (decide (c = .delete) && !(s.lookup k).any (fun e => e.state == .live), 0x20),
         (!listed && decide (16 ≤ staged.length), 0x33),
         (decide (s.poolFree + old < units), 0x34)] with
        | some code => (s.setContext h (.opened l timeout 0 staged)).answered l r [code]
        | none =>
          (({ s with
            holds := s.holds.filter (fun p => decide (p.1 ≠ k)) ++ [(k, .context h)]
            poolFree := s.poolFree + old - units } : State).setContext h (.opened l timeout 0 after)).answered l r
              ([0x00, BitVec.ofNat 8 after.length] ++ be16Nat (s.poolFree + old - units))))

/-- UNSTAGE and ABORT in an OPEN context of the link. UNSTAGE: a staged key leaves the list, its hold is released and its units return; a
key that is not staged is NOT_FOUND; the timer restarts. ABORT: the context becomes FREE, all its holds are released and all its units
returned (R36, R37, R38). -/
def Obligations.UnstageAndAbortGiveBack : Prop :=
  ∀ (s : State) (l : Link) (r : Request) (h : Handle) (timeout idle : Nat) (staged : List Staged),
    s.serving l r → s.store.readable = true → s.context h = .opened l timeout idle staged →
    (∀ k : Key, r.typ = 0x22 → r.payload = [BitVec.ofNat 8 (h.val + 1)] ++ be16 k → k ≠ 0 → k ≠ 0xFFFF →
      (staged.find? (fun e => e.key == k) = none →
        exec .unstage s = .next ((s.setContext h (.opened l timeout 0 staged)).answered l r [0x20])) ∧
      (∀ e, staged.find? (fun e => e.key == k) = some e →
        (let left := staged.filter (fun d => decide (d.key ≠ k))
         exec .unstage s = .next
          ((({ s with
            holds := s.holds.filter (fun p => decide (p.1 ≠ k))
            poolFree := s.poolFree + (match e.change with
              | .value bytes => (bytes.length + 15) / 16
              | .delete => 0) } : State).setContext h (.opened l timeout 0 left)).answered l r [0x00, BitVec.ofNat 8 left.length])))) ∧
    (r.typ = 0x24 → r.payload = [BitVec.ofNat 8 (h.val + 1)] →
      exec .abort s = .next
        (({ s with
          holds := s.holds.filter (fun p => decide (p.2 ≠ .context h))
          poolFree := s.poolFree + (staged.map (fun e => match e.change with
            | .value bytes => (bytes.length + 15) / 16
            | .delete => 0)).sum } : State).setContext h .free |>.answered l r [0x00]))

/-- COMMIT of an OPEN context of the link: an empty list frees it with OK and makes no job; otherwise the steps of R41 from the supply on,
of which the first that refuses leaves the context OPEN with its timer restarted; when none does, the context is COMMITTING with the ticket
of a job that reserves its gross lines and slots (R15, R38, R41, R42, R43). -/
def Obligations.CommitByItsSteps : Prop :=
  ∀ (s : State) (l : Link) (r : Request) (wp : Wp) (h : Handle) (timeout idle : Nat) (staged : List Staged),
    s.serving l r → r.typ = 0x23 → r.payload = [BitVec.ofNat 8 (h.val + 1)] → s.store.readable = true →
    s.context h = .opened l timeout idle staged →
    (staged = [] →
      exec (.commit wp) s = .next
        (({ s with holds := s.holds.filter (fun p => decide (p.2 ≠ .context h)) } : State).setContext h .free |>.answered l r [0x00])) ∧
    (staged ≠ [] →
      (let lines := (staged.map (fun e => match e.change with
         | .value bytes => 1 + (bytes.length + 15) / 16
         | .delete => 1)).sum + (if 2 ≤ staged.length then 1 else 0)
       let slots := staged.countP (fun e => decide (e.change ≠ .delete) && (s.lookup e.key).isNone)
       let zone := staged.findSome? (fun e => s.writeCheck l wp e.key)
       exec (.commit wp) s = .next
        (match firstOf
          [(decide (s.supply = .low), 0x41), (decide (s.store ≠ .ready), 0x42),
           (decide (zone = some .frozen), 0x51), (decide (zone = some .isProtected), 0x50),
           (decide (s.liveCapacity < s.liveLines + s.reservedLines + lines), 0x23),
           (decide (512 < s.directory.length + s.slotReservations + slots), 0x22),
           (decide (8 ≤ s.queue.length ∨ ∃ j ∈ s.queue, j.work = .format), 0x40)] with
          | some code => (s.setContext h (.opened l timeout 0 staged)).answered l r [code]
          | none =>
            (({ s with
              queue := s.queue ++ [⟨s.nextTicket, .commit h, l, lines, slots⟩]
              nextTicket := if s.nextTicket = 0xFFFF then 1 else s.nextTicket + 1
              reservedLines := s.reservedLines + lines
              slotReservations := s.slotReservations + slots } : State).setContext h
                (.committing l timeout staged s.nextTicket)).answered l r ([0x01] ++ be16 s.nextTicket))))

/-- READ in view OWN and TXNINFO of a context of the link. READ of an OPEN context: a staged VALUE with its base generation and flag STAGED, a staged
DELETE as NOT_FOUND with flag STAGED_DELETE, and any other key as in view COMMITTED; the idle timer restarts. TXNINFO: state, timeout, the
idle time before the request restarts it (0 in COMMITTING), and the staged entries in list order (R38, R45, R46, R184). -/
def Obligations.OwnViewAndTxninfoShowTheContext : Prop :=
  ∀ (s : State) (l : Link) (r : Request) (h : Handle) (timeout : Nat) (staged : List Staged),
    s.serving l r → s.store.readable = true →
    (let entries := [BitVec.ofNat 8 staged.length] ++ staged.flatMap (fun e =>
       be16 e.key
         ++ (match e.change with
           | .value bytes => [0x00] ++ be16Nat bytes.length
           | .delete => [0x01, 0x00, 0x00])
         ++ (match e.base with
           | some g => [0x01] ++ be32 g
           | none => [0x00, 0x00, 0x00, 0x00, 0x00]))
     (∀ idle, s.context h = .opened l timeout idle staged →
       (∀ k : Key, r.typ = 0x10 → r.payload = be16 k ++ [1, BitVec.ofNat 8 (h.val + 1)] → userKey k →
         exec .readOwn s = .next ((s.setContext h (.opened l timeout 0 staged)).answered l r
           (match staged.find? (fun e => e.key == k) with
             | some ⟨_, .value bytes, base⟩ => [0x00] ++ be32 (base.getD 0) ++ [0x01] ++ be16Nat bytes.length ++ bytes
             | some ⟨_, .delete, _⟩ => [0x20, 0x02]
             | none => (s.readCommitted k).status.code :: (s.readCommitted k).fields))) ∧
       (r.typ = 0x25 → r.payload = [BitVec.ofNat 8 (h.val + 1)] →
         exec .txninfo s = .next ((s.setContext h (.opened l timeout 0 staged)).answered l r
           ([0x00, 0x01] ++ be16Nat timeout ++ be16Nat idle ++ entries)))) ∧
     (∀ ticket, s.context h = .committing l timeout staged ticket → r.typ = 0x25 → r.payload = [BitVec.ofNat 8 (h.val + 1)] →
       exec .txninfo s = .next (s.answered l r ([0x00, 0x02] ++ be16Nat timeout ++ [0x00, 0x00] ++ entries))))

/-! ### Watches -/

/-- WATCH_ADD, WATCH_REMOVE and WATCH_CLEAR on the requesting link's table (R191, R192): each is answered with the number of keys after it. -/
def Obligations.WatchTableByItsOps : Prop :=
  ∀ (s : State) (l : Link) (r : Request) (op : Byte) (k : Key), s.serving l r → r.typ = 0x30 → r.payload = [op] ++ be16 k →
    s.store.readable = true →
    (let keys := (s.link l).watches
     let become (after : List Key) : State :=
       (s.setLink l { s.link l with watches := after }).answered l r [0x00, BitVec.ofNat 8 after.length]
     (op = 0 → k ≠ 0 → k ≠ 0xFFFF → exec .watchAdd s = .next
       (if k ∈ keys then become keys else if keys.length < 8 then become (keys ++ [k]) else s.answered l r [0x35])) ∧
     (op = 1 → k ≠ 0 → k ≠ 0xFFFF → exec .watchRemove s = .next
       (if k ∈ keys then become (keys.filter (fun j => decide (j ≠ k))) else s.answered l r [0x20])) ∧
     (op = 2 → exec .watchClear s = .next (become [])))

/-! ### Zones and store-wide jobs -/

/-- ZONES: eight records of the table in force in index order, an undefined zone reading 0 after its index; nothing changes (R141, R184). -/
def Obligations.ZonesReportsTheTable : Prop :=
  ∀ (s : State) (l : Link) (r : Request), s.serving l r → r.typ = 0x38 → r.payload = [] →
    exec .zones s = .next (s.answered l r
      (if s.store.readable = true then
        0x00 :: (List.finRange 8).flatMap (fun i => BitVec.ofNat 8 i.val :: (match s.zones[i] with
          | some z => [0x01] ++ be16 z.low ++ be16 z.high
              ++ [BitVec.ofNat 8 (z.link0Write.toNat + 2 * z.link1Write.toNat), BitVec.ofNat 8 (z.guarded.toNat + 2 * z.frozen.toNat)]
          | none => [0, 0, 0, 0, 0, 0, 0]))
       else [0x43]))

/-- ZONE_SET with op DEFINE or CLEAR by the steps of R136 from the key step on: the first that refuses decides; when none does, a ZONE_UPDATE job
is accepted with 5 lines and the table in force changed at the index alone (R137). -/
def Obligations.ZoneSetByItsSteps : Prop :=
  ∀ (s : State) (l : Link) (r : Request) (wp : Wp) (i : Fin 8) (z : Zone), s.serving l r → r.typ = 0x39 →
    (let slots := if (s.lookup 0xFFE0).isNone then 1 else 0
     let gate : List (Bool × Byte) :=
       [(decide (s.store ≠ .ready ∧ s.store.readable = true), 0x42), (decide (s.store.readable = false), 0x43),
        (decide (s.supply = .low), 0x41),
        (s.queue.any Job.isZoneUpdate || s.running.any (fun q => q.job.isZoneUpdate), 0x44),
        ((s.zones[i]).any (·.frozen), 0x51), (decide (wp = .asserted), 0x50)]
     let resources : List (Bool × Byte) :=
       [(decide (s.liveCapacity < s.liveLines + s.reservedLines + 5), 0x23),
        (decide (512 < s.directory.length + s.slotReservations + slots), 0x22),
        (decide (8 ≤ s.queue.length ∨ ∃ j ∈ s.queue, j.work = .format), 0x40)]
     let accepted (zone : Option Zone) : State :=
       ({ s with
         queue := s.queue ++ [⟨s.nextTicket, .zoneUpdate (s.zones.set i zone), l, 5, slots⟩]
         nextTicket := if s.nextTicket = 0xFFFF then 1 else s.nextTicket + 1
         reservedLines := s.reservedLines + 5
         slotReservations := s.slotReservations + slots } : State).answered l r ([0x01] ++ be16 s.nextTicket)
     (r.payload = [BitVec.ofNat 8 i.val, 0x00] ++ be16 z.low ++ be16 z.high
         ++ [BitVec.ofNat 8 z.link0Write.toNat, BitVec.ofNat 8 z.link1Write.toNat, BitVec.ofNat 8 z.guarded.toNat,
             BitVec.ofNat 8 z.frozen.toNat] →
       z.low.toNat ≤ z.high.toNat →
       exec (.zoneSetDefine wp) s = .next (match firstOf
         ([(decide (z.low = 0 ∨ z.low = 0xFFFF ∨ z.high = 0 ∨ z.high = 0xFFFF), 0x12),
           (decide (0xFF00 ≤ z.low.toNat ∨ 0xFF00 ≤ z.high.toNat), 0x13)] ++ gate
          ++ [((List.finRange 8).any (fun j => decide (j ≠ i) && (s.zones[j]).any (fun w =>
                 decide (z.low.toNat ≤ w.high.toNat ∧ w.low.toNat ≤ z.high.toNat))), 0x52)] ++ resources) with
         | some code => s.answered l r [code]
         | none => accepted (some z))) ∧
     (r.payload = [BitVec.ofNat 8 i.val, 0x01] →
       exec (.zoneSetClear wp) s = .next (match firstOf (gate ++ resources) with
         | some code => s.answered l r [code]
         | none => accepted none)))

/-- RECLAIM by its steps and FORMAT by its table: the first step that refuses decides; when none does, a RECLAIM_REQ or a FORMAT job is accepted
that reserves nothing (R179, R180). -/
def Obligations.StoreWideJobsByTheirSteps : Prop :=
  ∀ (s : State) (l : Link) (r : Request), s.serving l r →
    (let accepted (work : Work) : State :=
       ({ s with
         queue := s.queue ++ [⟨s.nextTicket, work, l, 0, 0⟩]
         nextTicket := if s.nextTicket = 0xFFFF then 1 else s.nextTicket + 1 } : State).answered l r ([0x01] ++ be16 s.nextTicket)
     (r.typ = 0x3A → exec .reclaim s = .next (match firstOf
       [(decide (r.payload ≠ []), 0x11), (decide (s.store ≠ .ready ∧ s.store.readable = true), 0x42),
        (decide (s.store.readable = false), 0x43), (decide (s.supply = .low), 0x41),
        (decide (8 ≤ s.queue.length ∨ ∃ j ∈ s.queue, j.work = .format), 0x40)] with
       | some code => s.answered l r [code]
       | none => accepted .reclaimReq)) ∧
     (r.typ = 0x3F → exec .format s = .next (match firstOf
       [(decide (r.payload ≠ []), 0x11), (decide (s.store = .mounting), 0x43), (decide (s.store = .formatting), 0x44),
        (decide (s.supply = .low), 0x41),
        (decide ((∃ h : Handle, s.context h ≠ .free) ∨ s.queue ≠ [] ∨ (∃ q, s.running = some q ∧ q.job.isZoneUpdate = true)
          ∨ s.epoch = 0xFFFFFFFF), 0x44),
        (decide (∃ i : Fin 8, ∃ z, s.zones[i] = some z ∧ z.frozen = true), 0x53)] with
       | some code => s.answered l r [code]
       | none => accepted .format)))
end

