-- ==== Sys2Proof/Laws/State.lean ====
section
/-! SUPPORT. The state's small lemmas: for each named update, what every field it does not write reads after it, and what the fields it
writes read. -/

namespace Sys2Proof.Machine

variable (s : State)

/-! ### setLink -/

@[simp] theorem State.setLink_held (l : Link) (f : Framer) : (s.setLink l f).held = s.held := by cases l <;> rfl
@[simp] theorem State.setLink_store (l : Link) (f : Framer) : (s.setLink l f).store = s.store := by cases l <;> rfl
@[simp] theorem State.setLink_directory (l : Link) (f : Framer) : (s.setLink l f).directory = s.directory := by cases l <;> rfl
@[simp] theorem State.setLink_reservedLines (l : Link) (f : Framer) : (s.setLink l f).reservedLines = s.reservedLines := by cases l <;> rfl
@[simp] theorem State.setLink_slotReservations (l : Link) (f : Framer) : (s.setLink l f).slotReservations = s.slotReservations := by cases l <;> rfl
@[simp] theorem State.setLink_contexts (l : Link) (f : Framer) : (s.setLink l f).contexts = s.contexts := by cases l <;> rfl
@[simp] theorem State.setLink_holds (l : Link) (f : Framer) : (s.setLink l f).holds = s.holds := by cases l <;> rfl
@[simp] theorem State.setLink_poolFree (l : Link) (f : Framer) : (s.setLink l f).poolFree = s.poolFree := by cases l <;> rfl
@[simp] theorem State.setLink_queue (l : Link) (f : Framer) : (s.setLink l f).queue = s.queue := by cases l <;> rfl
@[simp] theorem State.setLink_nextTicket (l : Link) (f : Framer) : (s.setLink l f).nextTicket = s.nextTicket := by cases l <;> rfl
@[simp] theorem State.setLink_generationNext (l : Link) (f : Framer) : (s.setLink l f).generationNext = s.generationNext := by cases l <;> rfl
@[simp] theorem State.setLink_marks (l : Link) (f : Framer) : (s.setLink l f).marks = s.marks := by cases l <;> rfl
@[simp] theorem State.setLink_engine (l : Link) (f : Framer) : (s.setLink l f).engine = s.engine := by cases l <;> rfl
@[simp] theorem State.setLink_running (l : Link) (f : Framer) : (s.setLink l f).running = s.running := by cases l <;> rfl
@[simp] theorem State.setLink_pass (l : Link) (f : Framer) : (s.setLink l f).pass = s.pass := by cases l <;> rfl
@[simp] theorem State.setLink_sectors (l : Link) (f : Framer) : (s.setLink l f).sectors = s.sectors := by cases l <;> rfl
@[simp] theorem State.setLink_epoch (l : Link) (f : Framer) : (s.setLink l f).epoch = s.epoch := by cases l <;> rfl
@[simp] theorem State.setLink_openSequenceNext (l : Link) (f : Framer) : (s.setLink l f).openSequenceNext = s.openSequenceNext := by cases l <;> rfl
@[simp] theorem State.setLink_array (l : Link) (f : Framer) : (s.setLink l f).array = s.array := by cases l <;> rfl
@[simp] theorem State.setLink_ops (l : Link) (f : Framer) : (s.setLink l f).ops = s.ops := by cases l <;> rfl
@[simp] theorem State.setLink_mount (l : Link) (f : Framer) : (s.setLink l f).mount = s.mount := by cases l <;> rfl
@[simp] theorem State.setLink_zones (l : Link) (f : Framer) : (s.setLink l f).zones = s.zones := by cases l <;> rfl
@[simp] theorem State.setLink_supply (l : Link) (f : Framer) : (s.setLink l f).supply = s.supply := by cases l <;> rfl
@[simp] theorem State.setLink_uartRate (l : Link) (f : Framer) : (s.setLink l f).uartRate = s.uartRate := by cases l <;> rfl
@[simp] theorem State.setLink_lastServed (l : Link) (f : Framer) : (s.setLink l f).lastServed = s.lastServed := by cases l <;> rfl
@[simp] theorem State.setLink_pending (l : Link) (f : Framer) : (s.setLink l f).pending = s.pending := by cases l <;> rfl

/-! ### modSector -/

@[simp] theorem State.modSector_held (x : Sector) (f : SectorRecord → SectorRecord) : (s.modSector x f).held = s.held := rfl
@[simp] theorem State.modSector_store (x : Sector) (f : SectorRecord → SectorRecord) : (s.modSector x f).store = s.store := rfl
@[simp] theorem State.modSector_directory (x : Sector) (f : SectorRecord → SectorRecord) : (s.modSector x f).directory = s.directory := rfl
@[simp] theorem State.modSector_reservedLines (x : Sector) (f : SectorRecord → SectorRecord) : (s.modSector x f).reservedLines = s.reservedLines := rfl
@[simp] theorem State.modSector_slotReservations (x : Sector) (f : SectorRecord → SectorRecord) : (s.modSector x f).slotReservations = s.slotReservations := rfl
@[simp] theorem State.modSector_contexts (x : Sector) (f : SectorRecord → SectorRecord) : (s.modSector x f).contexts = s.contexts := rfl
@[simp] theorem State.modSector_holds (x : Sector) (f : SectorRecord → SectorRecord) : (s.modSector x f).holds = s.holds := rfl
@[simp] theorem State.modSector_poolFree (x : Sector) (f : SectorRecord → SectorRecord) : (s.modSector x f).poolFree = s.poolFree := rfl
@[simp] theorem State.modSector_queue (x : Sector) (f : SectorRecord → SectorRecord) : (s.modSector x f).queue = s.queue := rfl
@[simp] theorem State.modSector_nextTicket (x : Sector) (f : SectorRecord → SectorRecord) : (s.modSector x f).nextTicket = s.nextTicket := rfl
@[simp] theorem State.modSector_generationNext (x : Sector) (f : SectorRecord → SectorRecord) : (s.modSector x f).generationNext = s.generationNext := rfl
@[simp] theorem State.modSector_marks (x : Sector) (f : SectorRecord → SectorRecord) : (s.modSector x f).marks = s.marks := rfl
@[simp] theorem State.modSector_engine (x : Sector) (f : SectorRecord → SectorRecord) : (s.modSector x f).engine = s.engine := rfl
@[simp] theorem State.modSector_running (x : Sector) (f : SectorRecord → SectorRecord) : (s.modSector x f).running = s.running := rfl
@[simp] theorem State.modSector_pass (x : Sector) (f : SectorRecord → SectorRecord) : (s.modSector x f).pass = s.pass := rfl
@[simp] theorem State.modSector_epoch (x : Sector) (f : SectorRecord → SectorRecord) : (s.modSector x f).epoch = s.epoch := rfl
@[simp] theorem State.modSector_openSequenceNext (x : Sector) (f : SectorRecord → SectorRecord) : (s.modSector x f).openSequenceNext = s.openSequenceNext := rfl
@[simp] theorem State.modSector_array (x : Sector) (f : SectorRecord → SectorRecord) : (s.modSector x f).array = s.array := rfl
@[simp] theorem State.modSector_ops (x : Sector) (f : SectorRecord → SectorRecord) : (s.modSector x f).ops = s.ops := rfl
@[simp] theorem State.modSector_mount (x : Sector) (f : SectorRecord → SectorRecord) : (s.modSector x f).mount = s.mount := rfl
@[simp] theorem State.modSector_zones (x : Sector) (f : SectorRecord → SectorRecord) : (s.modSector x f).zones = s.zones := rfl
@[simp] theorem State.modSector_supply (x : Sector) (f : SectorRecord → SectorRecord) : (s.modSector x f).supply = s.supply := rfl
@[simp] theorem State.modSector_lf0 (x : Sector) (f : SectorRecord → SectorRecord) : (s.modSector x f).lf0 = s.lf0 := rfl
@[simp] theorem State.modSector_lf1 (x : Sector) (f : SectorRecord → SectorRecord) : (s.modSector x f).lf1 = s.lf1 := rfl
@[simp] theorem State.modSector_attn (x : Sector) (f : SectorRecord → SectorRecord) : (s.modSector x f).attn = s.attn := rfl
@[simp] theorem State.modSector_uartRate (x : Sector) (f : SectorRecord → SectorRecord) : (s.modSector x f).uartRate = s.uartRate := rfl
@[simp] theorem State.modSector_lastServed (x : Sector) (f : SectorRecord → SectorRecord) : (s.modSector x f).lastServed = s.lastServed := rfl
@[simp] theorem State.modSector_pending (x : Sector) (f : SectorRecord → SectorRecord) : (s.modSector x f).pending = s.pending := rfl

/-! ### setContext -/

@[simp] theorem State.setContext_held (h : Handle) (c : Context) : (s.setContext h c).held = s.held := rfl
@[simp] theorem State.setContext_store (h : Handle) (c : Context) : (s.setContext h c).store = s.store := rfl
@[simp] theorem State.setContext_directory (h : Handle) (c : Context) : (s.setContext h c).directory = s.directory := rfl
@[simp] theorem State.setContext_reservedLines (h : Handle) (c : Context) : (s.setContext h c).reservedLines = s.reservedLines := rfl
@[simp] theorem State.setContext_slotReservations (h : Handle) (c : Context) : (s.setContext h c).slotReservations = s.slotReservations := rfl
@[simp] theorem State.setContext_holds (h : Handle) (c : Context) : (s.setContext h c).holds = s.holds := rfl
@[simp] theorem State.setContext_poolFree (h : Handle) (c : Context) : (s.setContext h c).poolFree = s.poolFree := rfl
@[simp] theorem State.setContext_queue (h : Handle) (c : Context) : (s.setContext h c).queue = s.queue := rfl
@[simp] theorem State.setContext_nextTicket (h : Handle) (c : Context) : (s.setContext h c).nextTicket = s.nextTicket := rfl
@[simp] theorem State.setContext_generationNext (h : Handle) (c : Context) : (s.setContext h c).generationNext = s.generationNext := rfl
@[simp] theorem State.setContext_marks (h : Handle) (c : Context) : (s.setContext h c).marks = s.marks := rfl
@[simp] theorem State.setContext_engine (h : Handle) (c : Context) : (s.setContext h c).engine = s.engine := rfl
@[simp] theorem State.setContext_running (h : Handle) (c : Context) : (s.setContext h c).running = s.running := rfl
@[simp] theorem State.setContext_pass (h : Handle) (c : Context) : (s.setContext h c).pass = s.pass := rfl
@[simp] theorem State.setContext_sectors (h : Handle) (c : Context) : (s.setContext h c).sectors = s.sectors := rfl
@[simp] theorem State.setContext_epoch (h : Handle) (c : Context) : (s.setContext h c).epoch = s.epoch := rfl
@[simp] theorem State.setContext_openSequenceNext (h : Handle) (c : Context) : (s.setContext h c).openSequenceNext = s.openSequenceNext := rfl
@[simp] theorem State.setContext_array (h : Handle) (c : Context) : (s.setContext h c).array = s.array := rfl
@[simp] theorem State.setContext_ops (h : Handle) (c : Context) : (s.setContext h c).ops = s.ops := rfl
@[simp] theorem State.setContext_mount (h : Handle) (c : Context) : (s.setContext h c).mount = s.mount := rfl
@[simp] theorem State.setContext_zones (h : Handle) (c : Context) : (s.setContext h c).zones = s.zones := rfl
@[simp] theorem State.setContext_supply (h : Handle) (c : Context) : (s.setContext h c).supply = s.supply := rfl
@[simp] theorem State.setContext_lf0 (h : Handle) (c : Context) : (s.setContext h c).lf0 = s.lf0 := rfl
@[simp] theorem State.setContext_lf1 (h : Handle) (c : Context) : (s.setContext h c).lf1 = s.lf1 := rfl
@[simp] theorem State.setContext_attn (h : Handle) (c : Context) : (s.setContext h c).attn = s.attn := rfl
@[simp] theorem State.setContext_uartRate (h : Handle) (c : Context) : (s.setContext h c).uartRate = s.uartRate := rfl
@[simp] theorem State.setContext_lastServed (h : Handle) (c : Context) : (s.setContext h c).lastServed = s.lastServed := rfl
@[simp] theorem State.setContext_pending (h : Handle) (c : Context) : (s.setContext h c).pending = s.pending := rfl

/-! ### takeHold -/

@[simp] theorem State.takeHold_held (k : Key) (h : Holder) : (s.takeHold k h).held = s.held := rfl
@[simp] theorem State.takeHold_store (k : Key) (h : Holder) : (s.takeHold k h).store = s.store := rfl
@[simp] theorem State.takeHold_directory (k : Key) (h : Holder) : (s.takeHold k h).directory = s.directory := rfl
@[simp] theorem State.takeHold_reservedLines (k : Key) (h : Holder) : (s.takeHold k h).reservedLines = s.reservedLines := rfl
@[simp] theorem State.takeHold_slotReservations (k : Key) (h : Holder) : (s.takeHold k h).slotReservations = s.slotReservations := rfl
@[simp] theorem State.takeHold_contexts (k : Key) (h : Holder) : (s.takeHold k h).contexts = s.contexts := rfl
@[simp] theorem State.takeHold_poolFree (k : Key) (h : Holder) : (s.takeHold k h).poolFree = s.poolFree := rfl
@[simp] theorem State.takeHold_queue (k : Key) (h : Holder) : (s.takeHold k h).queue = s.queue := rfl
@[simp] theorem State.takeHold_nextTicket (k : Key) (h : Holder) : (s.takeHold k h).nextTicket = s.nextTicket := rfl
@[simp] theorem State.takeHold_generationNext (k : Key) (h : Holder) : (s.takeHold k h).generationNext = s.generationNext := rfl
@[simp] theorem State.takeHold_marks (k : Key) (h : Holder) : (s.takeHold k h).marks = s.marks := rfl
@[simp] theorem State.takeHold_engine (k : Key) (h : Holder) : (s.takeHold k h).engine = s.engine := rfl
@[simp] theorem State.takeHold_running (k : Key) (h : Holder) : (s.takeHold k h).running = s.running := rfl
@[simp] theorem State.takeHold_pass (k : Key) (h : Holder) : (s.takeHold k h).pass = s.pass := rfl
@[simp] theorem State.takeHold_sectors (k : Key) (h : Holder) : (s.takeHold k h).sectors = s.sectors := rfl
@[simp] theorem State.takeHold_epoch (k : Key) (h : Holder) : (s.takeHold k h).epoch = s.epoch := rfl
@[simp] theorem State.takeHold_openSequenceNext (k : Key) (h : Holder) : (s.takeHold k h).openSequenceNext = s.openSequenceNext := rfl
@[simp] theorem State.takeHold_array (k : Key) (h : Holder) : (s.takeHold k h).array = s.array := rfl
@[simp] theorem State.takeHold_ops (k : Key) (h : Holder) : (s.takeHold k h).ops = s.ops := rfl
@[simp] theorem State.takeHold_mount (k : Key) (h : Holder) : (s.takeHold k h).mount = s.mount := rfl
@[simp] theorem State.takeHold_zones (k : Key) (h : Holder) : (s.takeHold k h).zones = s.zones := rfl
@[simp] theorem State.takeHold_supply (k : Key) (h : Holder) : (s.takeHold k h).supply = s.supply := rfl
@[simp] theorem State.takeHold_lf0 (k : Key) (h : Holder) : (s.takeHold k h).lf0 = s.lf0 := rfl
@[simp] theorem State.takeHold_lf1 (k : Key) (h : Holder) : (s.takeHold k h).lf1 = s.lf1 := rfl
@[simp] theorem State.takeHold_attn (k : Key) (h : Holder) : (s.takeHold k h).attn = s.attn := rfl
@[simp] theorem State.takeHold_uartRate (k : Key) (h : Holder) : (s.takeHold k h).uartRate = s.uartRate := rfl
@[simp] theorem State.takeHold_lastServed (k : Key) (h : Holder) : (s.takeHold k h).lastServed = s.lastServed := rfl
@[simp] theorem State.takeHold_pending (k : Key) (h : Holder) : (s.takeHold k h).pending = s.pending := rfl

/-! ### releaseKey -/

@[simp] theorem State.releaseKey_held (k : Key) : (s.releaseKey k).held = s.held := rfl
@[simp] theorem State.releaseKey_store (k : Key) : (s.releaseKey k).store = s.store := rfl
@[simp] theorem State.releaseKey_directory (k : Key) : (s.releaseKey k).directory = s.directory := rfl
@[simp] theorem State.releaseKey_reservedLines (k : Key) : (s.releaseKey k).reservedLines = s.reservedLines := rfl
@[simp] theorem State.releaseKey_slotReservations (k : Key) : (s.releaseKey k).slotReservations = s.slotReservations := rfl
@[simp] theorem State.releaseKey_contexts (k : Key) : (s.releaseKey k).contexts = s.contexts := rfl
@[simp] theorem State.releaseKey_poolFree (k : Key) : (s.releaseKey k).poolFree = s.poolFree := rfl
@[simp] theorem State.releaseKey_queue (k : Key) : (s.releaseKey k).queue = s.queue := rfl
@[simp] theorem State.releaseKey_nextTicket (k : Key) : (s.releaseKey k).nextTicket = s.nextTicket := rfl
@[simp] theorem State.releaseKey_generationNext (k : Key) : (s.releaseKey k).generationNext = s.generationNext := rfl
@[simp] theorem State.releaseKey_marks (k : Key) : (s.releaseKey k).marks = s.marks := rfl
@[simp] theorem State.releaseKey_engine (k : Key) : (s.releaseKey k).engine = s.engine := rfl
@[simp] theorem State.releaseKey_running (k : Key) : (s.releaseKey k).running = s.running := rfl
@[simp] theorem State.releaseKey_pass (k : Key) : (s.releaseKey k).pass = s.pass := rfl
@[simp] theorem State.releaseKey_sectors (k : Key) : (s.releaseKey k).sectors = s.sectors := rfl
@[simp] theorem State.releaseKey_epoch (k : Key) : (s.releaseKey k).epoch = s.epoch := rfl
@[simp] theorem State.releaseKey_openSequenceNext (k : Key) : (s.releaseKey k).openSequenceNext = s.openSequenceNext := rfl
@[simp] theorem State.releaseKey_array (k : Key) : (s.releaseKey k).array = s.array := rfl
@[simp] theorem State.releaseKey_ops (k : Key) : (s.releaseKey k).ops = s.ops := rfl
@[simp] theorem State.releaseKey_mount (k : Key) : (s.releaseKey k).mount = s.mount := rfl
@[simp] theorem State.releaseKey_zones (k : Key) : (s.releaseKey k).zones = s.zones := rfl
@[simp] theorem State.releaseKey_supply (k : Key) : (s.releaseKey k).supply = s.supply := rfl
@[simp] theorem State.releaseKey_lf0 (k : Key) : (s.releaseKey k).lf0 = s.lf0 := rfl
@[simp] theorem State.releaseKey_lf1 (k : Key) : (s.releaseKey k).lf1 = s.lf1 := rfl
@[simp] theorem State.releaseKey_attn (k : Key) : (s.releaseKey k).attn = s.attn := rfl
@[simp] theorem State.releaseKey_uartRate (k : Key) : (s.releaseKey k).uartRate = s.uartRate := rfl
@[simp] theorem State.releaseKey_lastServed (k : Key) : (s.releaseKey k).lastServed = s.lastServed := rfl
@[simp] theorem State.releaseKey_pending (k : Key) : (s.releaseKey k).pending = s.pending := rfl

/-! ### releaseHolder -/

@[simp] theorem State.releaseHolder_held (h : Holder) : (s.releaseHolder h).held = s.held := rfl
@[simp] theorem State.releaseHolder_store (h : Holder) : (s.releaseHolder h).store = s.store := rfl
@[simp] theorem State.releaseHolder_directory (h : Holder) : (s.releaseHolder h).directory = s.directory := rfl
@[simp] theorem State.releaseHolder_reservedLines (h : Holder) : (s.releaseHolder h).reservedLines = s.reservedLines := rfl
@[simp] theorem State.releaseHolder_slotReservations (h : Holder) : (s.releaseHolder h).slotReservations = s.slotReservations := rfl
@[simp] theorem State.releaseHolder_contexts (h : Holder) : (s.releaseHolder h).contexts = s.contexts := rfl
@[simp] theorem State.releaseHolder_poolFree (h : Holder) : (s.releaseHolder h).poolFree = s.poolFree := rfl
@[simp] theorem State.releaseHolder_queue (h : Holder) : (s.releaseHolder h).queue = s.queue := rfl
@[simp] theorem State.releaseHolder_nextTicket (h : Holder) : (s.releaseHolder h).nextTicket = s.nextTicket := rfl
@[simp] theorem State.releaseHolder_generationNext (h : Holder) : (s.releaseHolder h).generationNext = s.generationNext := rfl
@[simp] theorem State.releaseHolder_marks (h : Holder) : (s.releaseHolder h).marks = s.marks := rfl
@[simp] theorem State.releaseHolder_engine (h : Holder) : (s.releaseHolder h).engine = s.engine := rfl
@[simp] theorem State.releaseHolder_running (h : Holder) : (s.releaseHolder h).running = s.running := rfl
@[simp] theorem State.releaseHolder_pass (h : Holder) : (s.releaseHolder h).pass = s.pass := rfl
@[simp] theorem State.releaseHolder_sectors (h : Holder) : (s.releaseHolder h).sectors = s.sectors := rfl
@[simp] theorem State.releaseHolder_epoch (h : Holder) : (s.releaseHolder h).epoch = s.epoch := rfl
@[simp] theorem State.releaseHolder_openSequenceNext (h : Holder) : (s.releaseHolder h).openSequenceNext = s.openSequenceNext := rfl
@[simp] theorem State.releaseHolder_array (h : Holder) : (s.releaseHolder h).array = s.array := rfl
@[simp] theorem State.releaseHolder_ops (h : Holder) : (s.releaseHolder h).ops = s.ops := rfl
@[simp] theorem State.releaseHolder_mount (h : Holder) : (s.releaseHolder h).mount = s.mount := rfl
@[simp] theorem State.releaseHolder_zones (h : Holder) : (s.releaseHolder h).zones = s.zones := rfl
@[simp] theorem State.releaseHolder_supply (h : Holder) : (s.releaseHolder h).supply = s.supply := rfl
@[simp] theorem State.releaseHolder_lf0 (h : Holder) : (s.releaseHolder h).lf0 = s.lf0 := rfl
@[simp] theorem State.releaseHolder_lf1 (h : Holder) : (s.releaseHolder h).lf1 = s.lf1 := rfl
@[simp] theorem State.releaseHolder_attn (h : Holder) : (s.releaseHolder h).attn = s.attn := rfl
@[simp] theorem State.releaseHolder_uartRate (h : Holder) : (s.releaseHolder h).uartRate = s.uartRate := rfl
@[simp] theorem State.releaseHolder_lastServed (h : Holder) : (s.releaseHolder h).lastServed = s.lastServed := rfl
@[simp] theorem State.releaseHolder_pending (h : Holder) : (s.releaseHolder h).pending = s.pending := rfl

/-! ### freeContext -/

@[simp] theorem State.freeContext_held (h : Handle) : (s.freeContext h).held = s.held := rfl
@[simp] theorem State.freeContext_store (h : Handle) : (s.freeContext h).store = s.store := rfl
@[simp] theorem State.freeContext_directory (h : Handle) : (s.freeContext h).directory = s.directory := rfl
@[simp] theorem State.freeContext_reservedLines (h : Handle) : (s.freeContext h).reservedLines = s.reservedLines := rfl
@[simp] theorem State.freeContext_slotReservations (h : Handle) : (s.freeContext h).slotReservations = s.slotReservations := rfl
@[simp] theorem State.freeContext_queue (h : Handle) : (s.freeContext h).queue = s.queue := rfl
@[simp] theorem State.freeContext_nextTicket (h : Handle) : (s.freeContext h).nextTicket = s.nextTicket := rfl
@[simp] theorem State.freeContext_generationNext (h : Handle) : (s.freeContext h).generationNext = s.generationNext := rfl
@[simp] theorem State.freeContext_marks (h : Handle) : (s.freeContext h).marks = s.marks := rfl
@[simp] theorem State.freeContext_engine (h : Handle) : (s.freeContext h).engine = s.engine := rfl
@[simp] theorem State.freeContext_running (h : Handle) : (s.freeContext h).running = s.running := rfl
@[simp] theorem State.freeContext_pass (h : Handle) : (s.freeContext h).pass = s.pass := rfl
@[simp] theorem State.freeContext_sectors (h : Handle) : (s.freeContext h).sectors = s.sectors := rfl
@[simp] theorem State.freeContext_epoch (h : Handle) : (s.freeContext h).epoch = s.epoch := rfl
@[simp] theorem State.freeContext_openSequenceNext (h : Handle) : (s.freeContext h).openSequenceNext = s.openSequenceNext := rfl
@[simp] theorem State.freeContext_array (h : Handle) : (s.freeContext h).array = s.array := rfl
@[simp] theorem State.freeContext_ops (h : Handle) : (s.freeContext h).ops = s.ops := rfl
@[simp] theorem State.freeContext_mount (h : Handle) : (s.freeContext h).mount = s.mount := rfl
@[simp] theorem State.freeContext_zones (h : Handle) : (s.freeContext h).zones = s.zones := rfl
@[simp] theorem State.freeContext_supply (h : Handle) : (s.freeContext h).supply = s.supply := rfl
@[simp] theorem State.freeContext_lf0 (h : Handle) : (s.freeContext h).lf0 = s.lf0 := rfl
@[simp] theorem State.freeContext_lf1 (h : Handle) : (s.freeContext h).lf1 = s.lf1 := rfl
@[simp] theorem State.freeContext_attn (h : Handle) : (s.freeContext h).attn = s.attn := rfl
@[simp] theorem State.freeContext_uartRate (h : Handle) : (s.freeContext h).uartRate = s.uartRate := rfl
@[simp] theorem State.freeContext_lastServed (h : Handle) : (s.freeContext h).lastServed = s.lastServed := rfl
@[simp] theorem State.freeContext_pending (h : Handle) : (s.freeContext h).pending = s.pending := rfl

/-! ### acceptJob -/

@[simp] theorem State.acceptJob_held (work : Work) (origin : Link) (lines slots : Nat) : (s.acceptJob work origin lines slots).held = s.held := rfl
@[simp] theorem State.acceptJob_store (work : Work) (origin : Link) (lines slots : Nat) : (s.acceptJob work origin lines slots).store = s.store := rfl
@[simp] theorem State.acceptJob_directory (work : Work) (origin : Link) (lines slots : Nat) : (s.acceptJob work origin lines slots).directory = s.directory := rfl
@[simp] theorem State.acceptJob_contexts (work : Work) (origin : Link) (lines slots : Nat) : (s.acceptJob work origin lines slots).contexts = s.contexts := rfl
@[simp] theorem State.acceptJob_holds (work : Work) (origin : Link) (lines slots : Nat) : (s.acceptJob work origin lines slots).holds = s.holds := rfl
@[simp] theorem State.acceptJob_poolFree (work : Work) (origin : Link) (lines slots : Nat) : (s.acceptJob work origin lines slots).poolFree = s.poolFree := rfl
@[simp] theorem State.acceptJob_generationNext (work : Work) (origin : Link) (lines slots : Nat) : (s.acceptJob work origin lines slots).generationNext = s.generationNext := rfl
@[simp] theorem State.acceptJob_marks (work : Work) (origin : Link) (lines slots : Nat) : (s.acceptJob work origin lines slots).marks = s.marks := rfl
@[simp] theorem State.acceptJob_engine (work : Work) (origin : Link) (lines slots : Nat) : (s.acceptJob work origin lines slots).engine = s.engine := rfl
@[simp] theorem State.acceptJob_running (work : Work) (origin : Link) (lines slots : Nat) : (s.acceptJob work origin lines slots).running = s.running := rfl
@[simp] theorem State.acceptJob_pass (work : Work) (origin : Link) (lines slots : Nat) : (s.acceptJob work origin lines slots).pass = s.pass := rfl
@[simp] theorem State.acceptJob_sectors (work : Work) (origin : Link) (lines slots : Nat) : (s.acceptJob work origin lines slots).sectors = s.sectors := rfl
@[simp] theorem State.acceptJob_epoch (work : Work) (origin : Link) (lines slots : Nat) : (s.acceptJob work origin lines slots).epoch = s.epoch := rfl
@[simp] theorem State.acceptJob_openSequenceNext (work : Work) (origin : Link) (lines slots : Nat) : (s.acceptJob work origin lines slots).openSequenceNext = s.openSequenceNext := rfl
@[simp] theorem State.acceptJob_array (work : Work) (origin : Link) (lines slots : Nat) : (s.acceptJob work origin lines slots).array = s.array := rfl
@[simp] theorem State.acceptJob_ops (work : Work) (origin : Link) (lines slots : Nat) : (s.acceptJob work origin lines slots).ops = s.ops := rfl
@[simp] theorem State.acceptJob_mount (work : Work) (origin : Link) (lines slots : Nat) : (s.acceptJob work origin lines slots).mount = s.mount := rfl
@[simp] theorem State.acceptJob_zones (work : Work) (origin : Link) (lines slots : Nat) : (s.acceptJob work origin lines slots).zones = s.zones := rfl
@[simp] theorem State.acceptJob_supply (work : Work) (origin : Link) (lines slots : Nat) : (s.acceptJob work origin lines slots).supply = s.supply := rfl
@[simp] theorem State.acceptJob_lf0 (work : Work) (origin : Link) (lines slots : Nat) : (s.acceptJob work origin lines slots).lf0 = s.lf0 := rfl
@[simp] theorem State.acceptJob_lf1 (work : Work) (origin : Link) (lines slots : Nat) : (s.acceptJob work origin lines slots).lf1 = s.lf1 := rfl
@[simp] theorem State.acceptJob_attn (work : Work) (origin : Link) (lines slots : Nat) : (s.acceptJob work origin lines slots).attn = s.attn := rfl
@[simp] theorem State.acceptJob_uartRate (work : Work) (origin : Link) (lines slots : Nat) : (s.acceptJob work origin lines slots).uartRate = s.uartRate := rfl
@[simp] theorem State.acceptJob_lastServed (work : Work) (origin : Link) (lines slots : Nat) : (s.acceptJob work origin lines slots).lastServed = s.lastServed := rfl
@[simp] theorem State.acceptJob_pending (work : Work) (origin : Link) (lines slots : Nat) : (s.acceptJob work origin lines slots).pending = s.pending := rfl

/-! ### withPending -/

@[simp] theorem State.withPending_held (cs : List Instr) : (s.withPending cs).held = s.held := rfl
@[simp] theorem State.withPending_store (cs : List Instr) : (s.withPending cs).store = s.store := rfl
@[simp] theorem State.withPending_directory (cs : List Instr) : (s.withPending cs).directory = s.directory := rfl
@[simp] theorem State.withPending_reservedLines (cs : List Instr) : (s.withPending cs).reservedLines = s.reservedLines := rfl
@[simp] theorem State.withPending_slotReservations (cs : List Instr) : (s.withPending cs).slotReservations = s.slotReservations := rfl
@[simp] theorem State.withPending_contexts (cs : List Instr) : (s.withPending cs).contexts = s.contexts := rfl
@[simp] theorem State.withPending_holds (cs : List Instr) : (s.withPending cs).holds = s.holds := rfl
@[simp] theorem State.withPending_poolFree (cs : List Instr) : (s.withPending cs).poolFree = s.poolFree := rfl
@[simp] theorem State.withPending_queue (cs : List Instr) : (s.withPending cs).queue = s.queue := rfl
@[simp] theorem State.withPending_nextTicket (cs : List Instr) : (s.withPending cs).nextTicket = s.nextTicket := rfl
@[simp] theorem State.withPending_generationNext (cs : List Instr) : (s.withPending cs).generationNext = s.generationNext := rfl
@[simp] theorem State.withPending_marks (cs : List Instr) : (s.withPending cs).marks = s.marks := rfl
@[simp] theorem State.withPending_engine (cs : List Instr) : (s.withPending cs).engine = s.engine := rfl
@[simp] theorem State.withPending_running (cs : List Instr) : (s.withPending cs).running = s.running := rfl
@[simp] theorem State.withPending_pass (cs : List Instr) : (s.withPending cs).pass = s.pass := rfl
@[simp] theorem State.withPending_sectors (cs : List Instr) : (s.withPending cs).sectors = s.sectors := rfl
@[simp] theorem State.withPending_epoch (cs : List Instr) : (s.withPending cs).epoch = s.epoch := rfl
@[simp] theorem State.withPending_openSequenceNext (cs : List Instr) : (s.withPending cs).openSequenceNext = s.openSequenceNext := rfl
@[simp] theorem State.withPending_array (cs : List Instr) : (s.withPending cs).array = s.array := rfl
@[simp] theorem State.withPending_ops (cs : List Instr) : (s.withPending cs).ops = s.ops := rfl
@[simp] theorem State.withPending_mount (cs : List Instr) : (s.withPending cs).mount = s.mount := rfl
@[simp] theorem State.withPending_zones (cs : List Instr) : (s.withPending cs).zones = s.zones := rfl
@[simp] theorem State.withPending_supply (cs : List Instr) : (s.withPending cs).supply = s.supply := rfl
@[simp] theorem State.withPending_lf0 (cs : List Instr) : (s.withPending cs).lf0 = s.lf0 := rfl
@[simp] theorem State.withPending_lf1 (cs : List Instr) : (s.withPending cs).lf1 = s.lf1 := rfl
@[simp] theorem State.withPending_attn (cs : List Instr) : (s.withPending cs).attn = s.attn := rfl
@[simp] theorem State.withPending_uartRate (cs : List Instr) : (s.withPending cs).uartRate = s.uartRate := rfl
@[simp] theorem State.withPending_lastServed (cs : List Instr) : (s.withPending cs).lastServed = s.lastServed := rfl

/-! ### request -/

@[simp] theorem State.request_held (op : ArrayOp) : (s.request op).held = s.held := rfl
@[simp] theorem State.request_store (op : ArrayOp) : (s.request op).store = s.store := rfl
@[simp] theorem State.request_directory (op : ArrayOp) : (s.request op).directory = s.directory := rfl
@[simp] theorem State.request_reservedLines (op : ArrayOp) : (s.request op).reservedLines = s.reservedLines := rfl
@[simp] theorem State.request_slotReservations (op : ArrayOp) : (s.request op).slotReservations = s.slotReservations := rfl
@[simp] theorem State.request_contexts (op : ArrayOp) : (s.request op).contexts = s.contexts := rfl
@[simp] theorem State.request_holds (op : ArrayOp) : (s.request op).holds = s.holds := rfl
@[simp] theorem State.request_poolFree (op : ArrayOp) : (s.request op).poolFree = s.poolFree := rfl
@[simp] theorem State.request_queue (op : ArrayOp) : (s.request op).queue = s.queue := rfl
@[simp] theorem State.request_nextTicket (op : ArrayOp) : (s.request op).nextTicket = s.nextTicket := rfl
@[simp] theorem State.request_generationNext (op : ArrayOp) : (s.request op).generationNext = s.generationNext := rfl
@[simp] theorem State.request_marks (op : ArrayOp) : (s.request op).marks = s.marks := rfl
@[simp] theorem State.request_engine (op : ArrayOp) : (s.request op).engine = s.engine := rfl
@[simp] theorem State.request_running (op : ArrayOp) : (s.request op).running = s.running := rfl
@[simp] theorem State.request_pass (op : ArrayOp) : (s.request op).pass = s.pass := rfl
@[simp] theorem State.request_sectors (op : ArrayOp) : (s.request op).sectors = s.sectors := rfl
@[simp] theorem State.request_epoch (op : ArrayOp) : (s.request op).epoch = s.epoch := rfl
@[simp] theorem State.request_openSequenceNext (op : ArrayOp) : (s.request op).openSequenceNext = s.openSequenceNext := rfl
@[simp] theorem State.request_array (op : ArrayOp) : (s.request op).array = s.array := rfl
@[simp] theorem State.request_mount (op : ArrayOp) : (s.request op).mount = s.mount := rfl
@[simp] theorem State.request_zones (op : ArrayOp) : (s.request op).zones = s.zones := rfl
@[simp] theorem State.request_supply (op : ArrayOp) : (s.request op).supply = s.supply := rfl
@[simp] theorem State.request_lf0 (op : ArrayOp) : (s.request op).lf0 = s.lf0 := rfl
@[simp] theorem State.request_lf1 (op : ArrayOp) : (s.request op).lf1 = s.lf1 := rfl
@[simp] theorem State.request_attn (op : ArrayOp) : (s.request op).attn = s.attn := rfl
@[simp] theorem State.request_uartRate (op : ArrayOp) : (s.request op).uartRate = s.uartRate := rfl
@[simp] theorem State.request_lastServed (op : ArrayOp) : (s.request op).lastServed = s.lastServed := rfl
@[simp] theorem State.request_pending (op : ArrayOp) : (s.request op).pending = s.pending := rfl

/-! ### popOp -/

@[simp] theorem State.popOp_held (rest : List ArrayOp) (a : CellArray) : (s.popOp rest a).held = s.held := rfl
@[simp] theorem State.popOp_store (rest : List ArrayOp) (a : CellArray) : (s.popOp rest a).store = s.store := rfl
@[simp] theorem State.popOp_directory (rest : List ArrayOp) (a : CellArray) : (s.popOp rest a).directory = s.directory := rfl
@[simp] theorem State.popOp_reservedLines (rest : List ArrayOp) (a : CellArray) : (s.popOp rest a).reservedLines = s.reservedLines := rfl
@[simp] theorem State.popOp_slotReservations (rest : List ArrayOp) (a : CellArray) : (s.popOp rest a).slotReservations = s.slotReservations := rfl
@[simp] theorem State.popOp_contexts (rest : List ArrayOp) (a : CellArray) : (s.popOp rest a).contexts = s.contexts := rfl
@[simp] theorem State.popOp_holds (rest : List ArrayOp) (a : CellArray) : (s.popOp rest a).holds = s.holds := rfl
@[simp] theorem State.popOp_poolFree (rest : List ArrayOp) (a : CellArray) : (s.popOp rest a).poolFree = s.poolFree := rfl
@[simp] theorem State.popOp_queue (rest : List ArrayOp) (a : CellArray) : (s.popOp rest a).queue = s.queue := rfl
@[simp] theorem State.popOp_nextTicket (rest : List ArrayOp) (a : CellArray) : (s.popOp rest a).nextTicket = s.nextTicket := rfl
@[simp] theorem State.popOp_generationNext (rest : List ArrayOp) (a : CellArray) : (s.popOp rest a).generationNext = s.generationNext := rfl
@[simp] theorem State.popOp_marks (rest : List ArrayOp) (a : CellArray) : (s.popOp rest a).marks = s.marks := rfl
@[simp] theorem State.popOp_engine (rest : List ArrayOp) (a : CellArray) : (s.popOp rest a).engine = s.engine := rfl
@[simp] theorem State.popOp_running (rest : List ArrayOp) (a : CellArray) : (s.popOp rest a).running = s.running := rfl
@[simp] theorem State.popOp_pass (rest : List ArrayOp) (a : CellArray) : (s.popOp rest a).pass = s.pass := rfl
@[simp] theorem State.popOp_sectors (rest : List ArrayOp) (a : CellArray) : (s.popOp rest a).sectors = s.sectors := rfl
@[simp] theorem State.popOp_epoch (rest : List ArrayOp) (a : CellArray) : (s.popOp rest a).epoch = s.epoch := rfl
@[simp] theorem State.popOp_openSequenceNext (rest : List ArrayOp) (a : CellArray) : (s.popOp rest a).openSequenceNext = s.openSequenceNext := rfl
@[simp] theorem State.popOp_mount (rest : List ArrayOp) (a : CellArray) : (s.popOp rest a).mount = s.mount := rfl
@[simp] theorem State.popOp_zones (rest : List ArrayOp) (a : CellArray) : (s.popOp rest a).zones = s.zones := rfl
@[simp] theorem State.popOp_supply (rest : List ArrayOp) (a : CellArray) : (s.popOp rest a).supply = s.supply := rfl
@[simp] theorem State.popOp_lf0 (rest : List ArrayOp) (a : CellArray) : (s.popOp rest a).lf0 = s.lf0 := rfl
@[simp] theorem State.popOp_lf1 (rest : List ArrayOp) (a : CellArray) : (s.popOp rest a).lf1 = s.lf1 := rfl
@[simp] theorem State.popOp_attn (rest : List ArrayOp) (a : CellArray) : (s.popOp rest a).attn = s.attn := rfl
@[simp] theorem State.popOp_uartRate (rest : List ArrayOp) (a : CellArray) : (s.popOp rest a).uartRate = s.uartRate := rfl
@[simp] theorem State.popOp_lastServed (rest : List ArrayOp) (a : CellArray) : (s.popOp rest a).lastServed = s.lastServed := rfl
@[simp] theorem State.popOp_pending (rest : List ArrayOp) (a : CellArray) : (s.popOp rest a).pending = s.pending := rfl

/-! ### setMount -/

@[simp] theorem State.setMount_held (m : MountRecord) : (s.setMount m).held = s.held := rfl
@[simp] theorem State.setMount_store (m : MountRecord) : (s.setMount m).store = s.store := rfl
@[simp] theorem State.setMount_directory (m : MountRecord) : (s.setMount m).directory = s.directory := rfl
@[simp] theorem State.setMount_reservedLines (m : MountRecord) : (s.setMount m).reservedLines = s.reservedLines := rfl
@[simp] theorem State.setMount_slotReservations (m : MountRecord) : (s.setMount m).slotReservations = s.slotReservations := rfl
@[simp] theorem State.setMount_contexts (m : MountRecord) : (s.setMount m).contexts = s.contexts := rfl
@[simp] theorem State.setMount_holds (m : MountRecord) : (s.setMount m).holds = s.holds := rfl
@[simp] theorem State.setMount_poolFree (m : MountRecord) : (s.setMount m).poolFree = s.poolFree := rfl
@[simp] theorem State.setMount_queue (m : MountRecord) : (s.setMount m).queue = s.queue := rfl
@[simp] theorem State.setMount_nextTicket (m : MountRecord) : (s.setMount m).nextTicket = s.nextTicket := rfl
@[simp] theorem State.setMount_generationNext (m : MountRecord) : (s.setMount m).generationNext = s.generationNext := rfl
@[simp] theorem State.setMount_marks (m : MountRecord) : (s.setMount m).marks = s.marks := rfl
@[simp] theorem State.setMount_engine (m : MountRecord) : (s.setMount m).engine = s.engine := rfl
@[simp] theorem State.setMount_running (m : MountRecord) : (s.setMount m).running = s.running := rfl
@[simp] theorem State.setMount_pass (m : MountRecord) : (s.setMount m).pass = s.pass := rfl
@[simp] theorem State.setMount_sectors (m : MountRecord) : (s.setMount m).sectors = s.sectors := rfl
@[simp] theorem State.setMount_epoch (m : MountRecord) : (s.setMount m).epoch = s.epoch := rfl
@[simp] theorem State.setMount_openSequenceNext (m : MountRecord) : (s.setMount m).openSequenceNext = s.openSequenceNext := rfl
@[simp] theorem State.setMount_array (m : MountRecord) : (s.setMount m).array = s.array := rfl
@[simp] theorem State.setMount_ops (m : MountRecord) : (s.setMount m).ops = s.ops := rfl
@[simp] theorem State.setMount_zones (m : MountRecord) : (s.setMount m).zones = s.zones := rfl
@[simp] theorem State.setMount_supply (m : MountRecord) : (s.setMount m).supply = s.supply := rfl
@[simp] theorem State.setMount_lf0 (m : MountRecord) : (s.setMount m).lf0 = s.lf0 := rfl
@[simp] theorem State.setMount_lf1 (m : MountRecord) : (s.setMount m).lf1 = s.lf1 := rfl
@[simp] theorem State.setMount_attn (m : MountRecord) : (s.setMount m).attn = s.attn := rfl
@[simp] theorem State.setMount_uartRate (m : MountRecord) : (s.setMount m).uartRate = s.uartRate := rfl
@[simp] theorem State.setMount_lastServed (m : MountRecord) : (s.setMount m).lastServed = s.lastServed := rfl
@[simp] theorem State.setMount_pending (m : MountRecord) : (s.setMount m).pending = s.pending := rfl

/-! ### modRunning -/

@[simp] theorem State.modRunning_held (f : Running → Running) : (s.modRunning f).held = s.held := rfl
@[simp] theorem State.modRunning_store (f : Running → Running) : (s.modRunning f).store = s.store := rfl
@[simp] theorem State.modRunning_directory (f : Running → Running) : (s.modRunning f).directory = s.directory := rfl
@[simp] theorem State.modRunning_reservedLines (f : Running → Running) : (s.modRunning f).reservedLines = s.reservedLines := rfl
@[simp] theorem State.modRunning_slotReservations (f : Running → Running) : (s.modRunning f).slotReservations = s.slotReservations := rfl
@[simp] theorem State.modRunning_contexts (f : Running → Running) : (s.modRunning f).contexts = s.contexts := rfl
@[simp] theorem State.modRunning_holds (f : Running → Running) : (s.modRunning f).holds = s.holds := rfl
@[simp] theorem State.modRunning_poolFree (f : Running → Running) : (s.modRunning f).poolFree = s.poolFree := rfl
@[simp] theorem State.modRunning_queue (f : Running → Running) : (s.modRunning f).queue = s.queue := rfl
@[simp] theorem State.modRunning_nextTicket (f : Running → Running) : (s.modRunning f).nextTicket = s.nextTicket := rfl
@[simp] theorem State.modRunning_generationNext (f : Running → Running) : (s.modRunning f).generationNext = s.generationNext := rfl
@[simp] theorem State.modRunning_marks (f : Running → Running) : (s.modRunning f).marks = s.marks := rfl
@[simp] theorem State.modRunning_engine (f : Running → Running) : (s.modRunning f).engine = s.engine := rfl
@[simp] theorem State.modRunning_pass (f : Running → Running) : (s.modRunning f).pass = s.pass := rfl
@[simp] theorem State.modRunning_sectors (f : Running → Running) : (s.modRunning f).sectors = s.sectors := rfl
@[simp] theorem State.modRunning_epoch (f : Running → Running) : (s.modRunning f).epoch = s.epoch := rfl
@[simp] theorem State.modRunning_openSequenceNext (f : Running → Running) : (s.modRunning f).openSequenceNext = s.openSequenceNext := rfl
@[simp] theorem State.modRunning_array (f : Running → Running) : (s.modRunning f).array = s.array := rfl
@[simp] theorem State.modRunning_ops (f : Running → Running) : (s.modRunning f).ops = s.ops := rfl
@[simp] theorem State.modRunning_mount (f : Running → Running) : (s.modRunning f).mount = s.mount := rfl
@[simp] theorem State.modRunning_zones (f : Running → Running) : (s.modRunning f).zones = s.zones := rfl
@[simp] theorem State.modRunning_supply (f : Running → Running) : (s.modRunning f).supply = s.supply := rfl
@[simp] theorem State.modRunning_lf0 (f : Running → Running) : (s.modRunning f).lf0 = s.lf0 := rfl
@[simp] theorem State.modRunning_lf1 (f : Running → Running) : (s.modRunning f).lf1 = s.lf1 := rfl
@[simp] theorem State.modRunning_attn (f : Running → Running) : (s.modRunning f).attn = s.attn := rfl
@[simp] theorem State.modRunning_uartRate (f : Running → Running) : (s.modRunning f).uartRate = s.uartRate := rfl
@[simp] theorem State.modRunning_lastServed (f : Running → Running) : (s.modRunning f).lastServed = s.lastServed := rfl
@[simp] theorem State.modRunning_pending (f : Running → Running) : (s.modRunning f).pending = s.pending := rfl

/-! ### setPhase -/

@[simp] theorem State.setPhase_held (phase : PassPhase) : (s.setPhase phase).held = s.held := rfl
@[simp] theorem State.setPhase_store (phase : PassPhase) : (s.setPhase phase).store = s.store := rfl
@[simp] theorem State.setPhase_directory (phase : PassPhase) : (s.setPhase phase).directory = s.directory := rfl
@[simp] theorem State.setPhase_reservedLines (phase : PassPhase) : (s.setPhase phase).reservedLines = s.reservedLines := rfl
@[simp] theorem State.setPhase_slotReservations (phase : PassPhase) : (s.setPhase phase).slotReservations = s.slotReservations := rfl
@[simp] theorem State.setPhase_contexts (phase : PassPhase) : (s.setPhase phase).contexts = s.contexts := rfl
@[simp] theorem State.setPhase_holds (phase : PassPhase) : (s.setPhase phase).holds = s.holds := rfl
@[simp] theorem State.setPhase_poolFree (phase : PassPhase) : (s.setPhase phase).poolFree = s.poolFree := rfl
@[simp] theorem State.setPhase_queue (phase : PassPhase) : (s.setPhase phase).queue = s.queue := rfl
@[simp] theorem State.setPhase_nextTicket (phase : PassPhase) : (s.setPhase phase).nextTicket = s.nextTicket := rfl
@[simp] theorem State.setPhase_generationNext (phase : PassPhase) : (s.setPhase phase).generationNext = s.generationNext := rfl
@[simp] theorem State.setPhase_marks (phase : PassPhase) : (s.setPhase phase).marks = s.marks := rfl
@[simp] theorem State.setPhase_engine (phase : PassPhase) : (s.setPhase phase).engine = s.engine := rfl
@[simp] theorem State.setPhase_running (phase : PassPhase) : (s.setPhase phase).running = s.running := rfl
@[simp] theorem State.setPhase_sectors (phase : PassPhase) : (s.setPhase phase).sectors = s.sectors := rfl
@[simp] theorem State.setPhase_epoch (phase : PassPhase) : (s.setPhase phase).epoch = s.epoch := rfl
@[simp] theorem State.setPhase_openSequenceNext (phase : PassPhase) : (s.setPhase phase).openSequenceNext = s.openSequenceNext := rfl
@[simp] theorem State.setPhase_array (phase : PassPhase) : (s.setPhase phase).array = s.array := rfl
@[simp] theorem State.setPhase_ops (phase : PassPhase) : (s.setPhase phase).ops = s.ops := rfl
@[simp] theorem State.setPhase_mount (phase : PassPhase) : (s.setPhase phase).mount = s.mount := rfl
@[simp] theorem State.setPhase_zones (phase : PassPhase) : (s.setPhase phase).zones = s.zones := rfl
@[simp] theorem State.setPhase_supply (phase : PassPhase) : (s.setPhase phase).supply = s.supply := rfl
@[simp] theorem State.setPhase_lf0 (phase : PassPhase) : (s.setPhase phase).lf0 = s.lf0 := rfl
@[simp] theorem State.setPhase_lf1 (phase : PassPhase) : (s.setPhase phase).lf1 = s.lf1 := rfl
@[simp] theorem State.setPhase_attn (phase : PassPhase) : (s.setPhase phase).attn = s.attn := rfl
@[simp] theorem State.setPhase_uartRate (phase : PassPhase) : (s.setPhase phase).uartRate = s.uartRate := rfl
@[simp] theorem State.setPhase_lastServed (phase : PassPhase) : (s.setPhase phase).lastServed = s.lastServed := rfl
@[simp] theorem State.setPhase_pending (phase : PassPhase) : (s.setPhase phase).pending = s.pending := rfl

/-! ### setWriting -/

@[simp] theorem State.setWriting_held (w : Writer) (x : Option Writing) : (s.setWriting w x).held = s.held := by cases w <;> rfl
@[simp] theorem State.setWriting_store (w : Writer) (x : Option Writing) : (s.setWriting w x).store = s.store := by cases w <;> rfl
@[simp] theorem State.setWriting_directory (w : Writer) (x : Option Writing) : (s.setWriting w x).directory = s.directory := by cases w <;> rfl
@[simp] theorem State.setWriting_reservedLines (w : Writer) (x : Option Writing) : (s.setWriting w x).reservedLines = s.reservedLines := by cases w <;> rfl
@[simp] theorem State.setWriting_slotReservations (w : Writer) (x : Option Writing) : (s.setWriting w x).slotReservations = s.slotReservations := by cases w <;> rfl
@[simp] theorem State.setWriting_contexts (w : Writer) (x : Option Writing) : (s.setWriting w x).contexts = s.contexts := by cases w <;> rfl
@[simp] theorem State.setWriting_holds (w : Writer) (x : Option Writing) : (s.setWriting w x).holds = s.holds := by cases w <;> rfl
@[simp] theorem State.setWriting_poolFree (w : Writer) (x : Option Writing) : (s.setWriting w x).poolFree = s.poolFree := by cases w <;> rfl
@[simp] theorem State.setWriting_queue (w : Writer) (x : Option Writing) : (s.setWriting w x).queue = s.queue := by cases w <;> rfl
@[simp] theorem State.setWriting_nextTicket (w : Writer) (x : Option Writing) : (s.setWriting w x).nextTicket = s.nextTicket := by cases w <;> rfl
@[simp] theorem State.setWriting_generationNext (w : Writer) (x : Option Writing) : (s.setWriting w x).generationNext = s.generationNext := by cases w <;> rfl
@[simp] theorem State.setWriting_marks (w : Writer) (x : Option Writing) : (s.setWriting w x).marks = s.marks := by cases w <;> rfl
@[simp] theorem State.setWriting_engine (w : Writer) (x : Option Writing) : (s.setWriting w x).engine = s.engine := by cases w <;> rfl
@[simp] theorem State.setWriting_sectors (w : Writer) (x : Option Writing) : (s.setWriting w x).sectors = s.sectors := by cases w <;> rfl
@[simp] theorem State.setWriting_epoch (w : Writer) (x : Option Writing) : (s.setWriting w x).epoch = s.epoch := by cases w <;> rfl
@[simp] theorem State.setWriting_openSequenceNext (w : Writer) (x : Option Writing) : (s.setWriting w x).openSequenceNext = s.openSequenceNext := by cases w <;> rfl
@[simp] theorem State.setWriting_array (w : Writer) (x : Option Writing) : (s.setWriting w x).array = s.array := by cases w <;> rfl
@[simp] theorem State.setWriting_ops (w : Writer) (x : Option Writing) : (s.setWriting w x).ops = s.ops := by cases w <;> rfl
@[simp] theorem State.setWriting_mount (w : Writer) (x : Option Writing) : (s.setWriting w x).mount = s.mount := by cases w <;> rfl
@[simp] theorem State.setWriting_zones (w : Writer) (x : Option Writing) : (s.setWriting w x).zones = s.zones := by cases w <;> rfl
@[simp] theorem State.setWriting_supply (w : Writer) (x : Option Writing) : (s.setWriting w x).supply = s.supply := by cases w <;> rfl
@[simp] theorem State.setWriting_lf0 (w : Writer) (x : Option Writing) : (s.setWriting w x).lf0 = s.lf0 := by cases w <;> rfl
@[simp] theorem State.setWriting_lf1 (w : Writer) (x : Option Writing) : (s.setWriting w x).lf1 = s.lf1 := by cases w <;> rfl
@[simp] theorem State.setWriting_attn (w : Writer) (x : Option Writing) : (s.setWriting w x).attn = s.attn := by cases w <;> rfl
@[simp] theorem State.setWriting_uartRate (w : Writer) (x : Option Writing) : (s.setWriting w x).uartRate = s.uartRate := by cases w <;> rfl
@[simp] theorem State.setWriting_lastServed (w : Writer) (x : Option Writing) : (s.setWriting w x).lastServed = s.lastServed := by cases w <;> rfl
@[simp] theorem State.setWriting_pending (w : Writer) (x : Option Writing) : (s.setWriting w x).pending = s.pending := by cases w <;> rfl

/-! ### take -/

@[simp] theorem State.take_held (l : Link) (r : Request) : (s.take l r).held = s.held := by cases l <;> rfl
@[simp] theorem State.take_store (l : Link) (r : Request) : (s.take l r).store = s.store := by cases l <;> rfl
@[simp] theorem State.take_directory (l : Link) (r : Request) : (s.take l r).directory = s.directory := by cases l <;> rfl
@[simp] theorem State.take_reservedLines (l : Link) (r : Request) : (s.take l r).reservedLines = s.reservedLines := by cases l <;> rfl
@[simp] theorem State.take_slotReservations (l : Link) (r : Request) : (s.take l r).slotReservations = s.slotReservations := by cases l <;> rfl
@[simp] theorem State.take_contexts (l : Link) (r : Request) : (s.take l r).contexts = s.contexts := by cases l <;> rfl
@[simp] theorem State.take_holds (l : Link) (r : Request) : (s.take l r).holds = s.holds := by cases l <;> rfl
@[simp] theorem State.take_poolFree (l : Link) (r : Request) : (s.take l r).poolFree = s.poolFree := by cases l <;> rfl
@[simp] theorem State.take_queue (l : Link) (r : Request) : (s.take l r).queue = s.queue := by cases l <;> rfl
@[simp] theorem State.take_nextTicket (l : Link) (r : Request) : (s.take l r).nextTicket = s.nextTicket := by cases l <;> rfl
@[simp] theorem State.take_generationNext (l : Link) (r : Request) : (s.take l r).generationNext = s.generationNext := by cases l <;> rfl
@[simp] theorem State.take_marks (l : Link) (r : Request) : (s.take l r).marks = s.marks := by cases l <;> rfl
@[simp] theorem State.take_engine (l : Link) (r : Request) : (s.take l r).engine = s.engine := by cases l <;> rfl
@[simp] theorem State.take_running (l : Link) (r : Request) : (s.take l r).running = s.running := by cases l <;> rfl
@[simp] theorem State.take_pass (l : Link) (r : Request) : (s.take l r).pass = s.pass := by cases l <;> rfl
@[simp] theorem State.take_sectors (l : Link) (r : Request) : (s.take l r).sectors = s.sectors := by cases l <;> rfl
@[simp] theorem State.take_epoch (l : Link) (r : Request) : (s.take l r).epoch = s.epoch := by cases l <;> rfl
@[simp] theorem State.take_openSequenceNext (l : Link) (r : Request) : (s.take l r).openSequenceNext = s.openSequenceNext := by cases l <;> rfl
@[simp] theorem State.take_array (l : Link) (r : Request) : (s.take l r).array = s.array := by cases l <;> rfl
@[simp] theorem State.take_ops (l : Link) (r : Request) : (s.take l r).ops = s.ops := by cases l <;> rfl
@[simp] theorem State.take_mount (l : Link) (r : Request) : (s.take l r).mount = s.mount := by cases l <;> rfl
@[simp] theorem State.take_zones (l : Link) (r : Request) : (s.take l r).zones = s.zones := by cases l <;> rfl
@[simp] theorem State.take_supply (l : Link) (r : Request) : (s.take l r).supply = s.supply := by cases l <;> rfl
@[simp] theorem State.take_uartRate (l : Link) (r : Request) : (s.take l r).uartRate = s.uartRate := by cases l <;> rfl
@[simp] theorem State.take_pending (l : Link) (r : Request) : (s.take l r).pending = s.pending := by cases l <;> rfl

/-! ### answered -/

@[simp] theorem State.answered_held (l : Link) (r : Request) (payload : List Byte) : (s.answered l r payload).held = s.held := by cases l <;> rfl
@[simp] theorem State.answered_store (l : Link) (r : Request) (payload : List Byte) : (s.answered l r payload).store = s.store := by cases l <;> rfl
@[simp] theorem State.answered_directory (l : Link) (r : Request) (payload : List Byte) : (s.answered l r payload).directory = s.directory := by cases l <;> rfl
@[simp] theorem State.answered_reservedLines (l : Link) (r : Request) (payload : List Byte) : (s.answered l r payload).reservedLines = s.reservedLines := by cases l <;> rfl
@[simp] theorem State.answered_slotReservations (l : Link) (r : Request) (payload : List Byte) : (s.answered l r payload).slotReservations = s.slotReservations := by cases l <;> rfl
@[simp] theorem State.answered_contexts (l : Link) (r : Request) (payload : List Byte) : (s.answered l r payload).contexts = s.contexts := by cases l <;> rfl
@[simp] theorem State.answered_holds (l : Link) (r : Request) (payload : List Byte) : (s.answered l r payload).holds = s.holds := by cases l <;> rfl
@[simp] theorem State.answered_poolFree (l : Link) (r : Request) (payload : List Byte) : (s.answered l r payload).poolFree = s.poolFree := by cases l <;> rfl
@[simp] theorem State.answered_queue (l : Link) (r : Request) (payload : List Byte) : (s.answered l r payload).queue = s.queue := by cases l <;> rfl
@[simp] theorem State.answered_nextTicket (l : Link) (r : Request) (payload : List Byte) : (s.answered l r payload).nextTicket = s.nextTicket := by cases l <;> rfl
@[simp] theorem State.answered_generationNext (l : Link) (r : Request) (payload : List Byte) : (s.answered l r payload).generationNext = s.generationNext := by cases l <;> rfl
@[simp] theorem State.answered_marks (l : Link) (r : Request) (payload : List Byte) : (s.answered l r payload).marks = s.marks := by cases l <;> rfl
@[simp] theorem State.answered_engine (l : Link) (r : Request) (payload : List Byte) : (s.answered l r payload).engine = s.engine := by cases l <;> rfl
@[simp] theorem State.answered_running (l : Link) (r : Request) (payload : List Byte) : (s.answered l r payload).running = s.running := by cases l <;> rfl
@[simp] theorem State.answered_pass (l : Link) (r : Request) (payload : List Byte) : (s.answered l r payload).pass = s.pass := by cases l <;> rfl
@[simp] theorem State.answered_sectors (l : Link) (r : Request) (payload : List Byte) : (s.answered l r payload).sectors = s.sectors := by cases l <;> rfl
@[simp] theorem State.answered_epoch (l : Link) (r : Request) (payload : List Byte) : (s.answered l r payload).epoch = s.epoch := by cases l <;> rfl
@[simp] theorem State.answered_openSequenceNext (l : Link) (r : Request) (payload : List Byte) : (s.answered l r payload).openSequenceNext = s.openSequenceNext := by cases l <;> rfl
@[simp] theorem State.answered_array (l : Link) (r : Request) (payload : List Byte) : (s.answered l r payload).array = s.array := by cases l <;> rfl
@[simp] theorem State.answered_ops (l : Link) (r : Request) (payload : List Byte) : (s.answered l r payload).ops = s.ops := by cases l <;> rfl
@[simp] theorem State.answered_mount (l : Link) (r : Request) (payload : List Byte) : (s.answered l r payload).mount = s.mount := by cases l <;> rfl
@[simp] theorem State.answered_zones (l : Link) (r : Request) (payload : List Byte) : (s.answered l r payload).zones = s.zones := by cases l <;> rfl
@[simp] theorem State.answered_supply (l : Link) (r : Request) (payload : List Byte) : (s.answered l r payload).supply = s.supply := by cases l <;> rfl
@[simp] theorem State.answered_uartRate (l : Link) (r : Request) (payload : List Byte) : (s.answered l r payload).uartRate = s.uartRate := by cases l <;> rfl
@[simp] theorem State.answered_pending (l : Link) (r : Request) (payload : List Byte) : (s.answered l r payload).pending = s.pending := by cases l <;> rfl

/-! ### The fields an update writes -/

@[simp] theorem State.link_link0 : s.link .link0 = s.lf0 := rfl
@[simp] theorem State.link_link1 : s.link .link1 = s.lf1 := rfl
@[simp] theorem State.link_setLink_same (l : Link) (f : Framer) : (s.setLink l f).link l = f := by cases l <;> rfl
@[simp] theorem State.link_setLink_other (l : Link) (f : Framer) : (s.setLink l f).link (otherLink l) = s.link (otherLink l) := by
  cases l <;> rfl
@[simp] theorem State.setLink_setLink (l : Link) (f g : Framer) : (s.setLink l f).setLink l g = s.setLink l g := by cases l <;> rfl
@[simp] theorem State.withPending_pending (cs : List Instr) : (s.withPending cs).pending = cs := rfl
@[simp] theorem State.request_ops (op : ArrayOp) : (s.request op).ops = s.ops ++ [op] := rfl
@[simp] theorem State.popOp_ops (rest : List ArrayOp) (a : CellArray) : (s.popOp rest a).ops = rest := rfl
@[simp] theorem State.popOp_array (rest : List ArrayOp) (a : CellArray) : (s.popOp rest a).array = a := rfl
@[simp] theorem State.setMount_mount (m : MountRecord) : (s.setMount m).mount = some m := rfl
@[simp] theorem State.modRunning_running (f : Running → Running) : (s.modRunning f).running = s.running.map f := rfl
@[simp] theorem State.answered_lastServed (l : Link) (r : Request) (payload : List Byte) : (s.answered l r payload).lastServed = l := rfl
@[simp] theorem State.acceptJob_queue (work : Work) (origin : Link) (lines slots : Nat) :
    (s.acceptJob work origin lines slots).queue = s.queue ++ [⟨s.nextTicket, work, origin, lines, slots⟩] := rfl
@[simp] theorem State.acceptJob_reservedLines (work : Work) (origin : Link) (lines slots : Nat) :
    (s.acceptJob work origin lines slots).reservedLines = s.reservedLines + lines := rfl
@[simp] theorem State.acceptJob_slotReservations (work : Work) (origin : Link) (lines slots : Nat) :
    (s.acceptJob work origin lines slots).slotReservations = s.slotReservations + slots := rfl
@[simp] theorem State.acceptJob_nextTicket (work : Work) (origin : Link) (lines slots : Nat) :
    (s.acceptJob work origin lines slots).nextTicket = ticketAfter s.nextTicket := rfl
@[simp] theorem State.takeHold_holds (k : Key) (h : Holder) :
    (s.takeHold k h).holds = s.holds.filter (fun p => !(p.1 == k)) ++ [(k, h)] := rfl
@[simp] theorem State.releaseKey_holds (k : Key) : (s.releaseKey k).holds = s.holds.filter (fun p => !(p.1 == k)) := rfl
@[simp] theorem State.releaseHolder_holds (h : Holder) : (s.releaseHolder h).holds = s.holds.filter (fun p => !(p.2 == h)) := rfl

/-- The context of a handle after a context has been set. -/
theorem State.context_setContext (h g : Handle) (c : Context) :
    (s.setContext h c).context g = if g = h then c else s.context g := by
  simp only [State.context, State.setContext, Fin.getElem_fin, Vector.getElem_set]
  by_cases hg : g = h
  · simp [hg]
  · rw [if_neg (fun e => hg (Fin.ext e.symm)), if_neg hg]

@[simp] theorem State.context_setContext_same (h : Handle) (c : Context) : (s.setContext h c).context h = c := by
  rw [State.context_setContext, if_pos rfl]

/-- The record of a sector after a record has been changed. -/
theorem State.sectors_modSector (x y : Sector) (f : SectorRecord → SectorRecord) :
    (s.modSector x f).sectors[y] = if y = x then f s.sectors[x] else s.sectors[y] := by
  simp only [State.modSector, Fin.getElem_fin, Vector.getElem_set]
  by_cases hy : y = x
  · simp [hy]
  · rw [if_neg (fun e => hy (Fin.ext e.symm)), if_neg hy]

end Sys2Proof.Machine
end

