-- ==== Sys2Proof/Laws/Executor.lean ====
section
/-! SUPPORT. The executor: which request it serves, and what one step of it does, said once for every request. -/

namespace Sys2Proof.Machine

/-- A link whose FIFO's head is the executor's choice is the link it takes from (R161). -/
theorem State.nextRequest_of_serving {s : State} {l : Link} {r : Request} (h : s.serving l r) : s.nextRequest = some (l, r) := by
  obtain ⟨-, hr, ho⟩ := h
  cases l <;> simp only [State.link, otherLink] at hr ho <;> unfold State.nextRequest State.nextLink
  · cases h0 : s.lf0.fifo with
    | nil => simp [h0] at hr
    | cons a as =>
      rw [h0] at hr
      cases h1 : s.lf1.fifo with
      | nil => simpa [h0] using hr
      | cons b bs =>
        rw [h1] at ho
        simpa [h0, otherLink, ho.resolve_left (by simp)] using hr
  · cases h1 : s.lf1.fifo with
    | nil => simp [h1] at hr
    | cons a as =>
      rw [h1] at hr
      cases h0 : s.lf0.fifo with
      | nil => simpa [h1] using hr
      | cons b bs =>
        rw [h0] at ho
        simpa [h1, otherLink, ho.resolve_left (by simp)] using hr

/-- One step of the executor on the request it serves, when its row is the step's own: it takes the request, acts, and queues the
reply. -/
theorem State.serve_of_serving {s : State} {l : Link} {r : Request} (h : s.serving l r) {row : Row} (hrow : r.row = row)
    (act : Link → Request → State → State × Reply) :
    s.serve row act = (act l r (s.take l r)).1.reply l r (act l r (s.take l r)).2 := by
  unfold State.serve State.unlessHeld
  rw [if_neg (by simp [h.1])]
  simp [State.nextRequest_of_serving h, hrow]

/-! ### Taking a request changes no figure, check or view -/

variable (s : State) (l : Link) (r : Request)

@[simp] theorem State.take_lookup (k : Key) : (s.take l r).lookup k = s.lookup k := by cases l <;> rfl
@[simp] theorem State.take_holder (k : Key) : (s.take l r).holder k = s.holder k := by cases l <;> rfl
@[simp] theorem State.take_isLive (k : Key) : (s.take l r).isLive k = s.isLive k := by cases l <;> rfl
@[simp] theorem State.take_slotsFor (k : Key) : (s.take l r).slotsFor k = s.slotsFor k := by cases l <;> rfl
@[simp] theorem State.take_context (h : Handle) : (s.take l r).context h = s.context h := by cases l <;> rfl
@[simp] theorem State.take_liveLines : (s.take l r).liveLines = s.liveLines := by cases l <;> rfl
@[simp] theorem State.take_staleLines : (s.take l r).staleLines = s.staleLines := by cases l <;> rfl
@[simp] theorem State.take_freeLines : (s.take l r).freeLines = s.freeLines := by cases l <;> rfl
@[simp] theorem State.take_liveCapacity : (s.take l r).liveCapacity = s.liveCapacity := by cases l <;> rfl
@[simp] theorem State.take_lacksLines (n : Nat) : (s.take l r).lacksLines n = s.lacksLines n := by cases l <;> rfl
@[simp] theorem State.take_lacksSlots (n : Nat) : (s.take l r).lacksSlots n = s.lacksSlots n := by cases l <;> rfl
@[simp] theorem State.take_queueStep : (s.take l r).queueStep = s.queueStep := by cases l <;> rfl
@[simp] theorem State.take_openSector : (s.take l r).openSector = s.openSector := by cases l <;> rfl
@[simp] theorem State.take_reserveSector : (s.take l r).reserveSector = s.reserveSector := by cases l <;> rfl
@[simp] theorem State.take_writeCheck (m : Link) (wp : Wp) (k : Key) : (s.take l r).writeCheck m wp k = s.writeCheck m wp k := by
  cases l <;> rfl
@[simp] theorem State.take_ownContext (m : Link) (b : Byte) : (s.take l r).ownContext m b = s.ownContext m b := by cases l <;> rfl
@[simp] theorem State.take_handleStep (m : Link) (b : Byte) : (s.take l r).handleStep m b = s.handleStep m b := by cases l <;> rfl
@[simp] theorem State.take_openHandleStep (m : Link) (b : Byte) : (s.take l r).openHandleStep m b = s.openHandleStep m b := by
  cases l <;> rfl
@[simp] theorem State.take_readCommitted (k : Key) : (s.take l r).readCommitted k = s.readCommitted k := by cases l <;> rfl

/-! ### Replies -/

/-- A request whose reply carries a payload and whose act changed nothing leaves the state answered. -/
theorem State.reply_take_eq_answered (reply : Reply) (h : replyType r.typ = r.typ + 0x80) :
    (s.take l r).reply l r reply = s.answered l r (reply.status.code :: reply.fields) := by
  cases l <;> simp [State.take, State.reply, State.modLink, Framer.reply, State.answered, Request.answer, Request.replyFrame, h,
    State.setLink, State.link]

/-- A request that its format step or one of its checks refuses changes nothing (R169). -/
theorem State.reply_take_refused (status : Status) (h : replyType r.typ = r.typ + 0x80) :
    (s.take l r).reply l r (refused status) = s.answered l r [status.code] :=
  State.reply_take_eq_answered s l r (refused status) h

/-- The act of a request whose checks all pass. -/
theorem withChecks_pass {checks : List (Option Status)} (h : firstRefusal checks = none) (t : State) (act : State × Reply) :
    withChecks checks t act = act := by
  simp [withChecks, h]

/-- The act of a request that a check refuses. -/
theorem withChecks_refuse {checks : List (Option Status)} {e : Status} (h : firstRefusal checks = some e) (t : State)
    (act : State × Reply) : withChecks checks t act = (t, refused e) := by
  simp [withChecks, h]

end Sys2Proof.Machine
end

