-- ==== Sys2Proof/Laws/Jobs.lean ====
section
/-! SUPPORT. The ends of jobs: what each shared operation of an end changes, said once (R14, R16, R19, R86, R89, R146). -/

namespace Sys2Proof.Machine

variable (s : State)

/-! ### READ_ONLY (R19, R20) -/

/-- A READY store enters READ_ONLY and offers STORE_STATE to both links (R19, R20). -/
theorem State.enterReadOnly_of_ready {s : State} (ready : s.store = .ready) (cause : Cause) :
    s.enterReadOnly cause = ({ s with store := .readOnly cause } : State).offerBoth (.storeState (.readOnly cause)) := by
  simp [State.enterReadOnly, ready]

/-- In any other state the store state and the cause stay (R19). -/
theorem State.enterReadOnly_of_not_ready {s : State} (other : s.store ≠ .ready) (cause : Cause) : s.enterReadOnly cause = s := by
  simp [State.enterReadOnly, other]

/-! ### Images of a job that ends without a switch (R14, R86) -/

/-- Only the sector table changes. -/
theorem State.abandonPlaced_frame (images : List (Image × Loc)) :
    s.abandonPlaced images = { s with sectors := (s.abandonPlaced images).sectors } := by
  induction images generalizing s with
  | nil => rfl
  | cons p rest ih =>
    have step := ih (s.pendingToStale p.2.sector p.1.lines)
    rw [State.abandonPlaced, step]
    rfl

/-- Each sector's lines of the images go from pending to stale. -/
theorem State.abandonPlaced_sector (images : List (Image × Loc)) (z : Sector) :
    (s.abandonPlaced images).sectors[z] =
      { s.sectors[z] with
        pending := s.sectors[z].pending - ((images.filter (fun p => decide (p.2.sector = z))).map (fun p => p.1.lines)).sum
        stale := s.sectors[z].stale + ((images.filter (fun p => decide (p.2.sector = z))).map (fun p => p.1.lines)).sum } := by
  induction images generalizing s with
  | nil => rfl
  | cons p rest ih =>
    rw [State.abandonPlaced, ih]
    by_cases same : p.2.sector = z
    · subst same
      simp [State.pendingToStale, State.modSector, Nat.sub_sub, Nat.add_assoc]
    · have apart : p.2.sector.val ≠ z.val := fun e => same (Fin.ext e)
      simp [State.pendingToStale, State.modSector, same, Vector.getElem_set_ne _ _ apart]

/-! ### The close of an event (R89, R146) -/

/-- Outside READ_ONLY, or with no job but a FORMAT queued, the queue stays (R89). -/
theorem State.endQueued_of_formats {s : State} {jobs : List Job} (formats : ∀ j ∈ jobs, j.work = .format) : s.endQueued jobs = s := by
  induction jobs with
  | nil => rfl
  | cons j rest ih =>
    have first : j.isFormat = true := by simp [Job.isFormat, formats j (List.mem_cons_self ..), Work.kind]
    rw [State.endQueued, if_pos first]
    exact ih fun k m => formats k (List.mem_cons_of_mem _ m)

/-- What closes an event changes nothing while the engine has the array and READ_ONLY finds no job to end (R89, R146). -/
theorem State.settle_of_engaged {s : State} (engaged : s.engine ≠ .idle)
    (queue : ∀ cause, s.store = .readOnly cause → ∀ j ∈ s.queue, j.work = .format) : s.settle = s := by
  have flushed : s.flushQueue = s := by
    unfold State.flushQueue
    cases h : s.store with
    | readOnly cause =>
      have formats := queue cause h
      have kept : s.queue.filter Job.isFormat = s.queue :=
        List.filter_eq_self.mpr fun j m => by simp [Job.isFormat, formats j m, Work.kind]
      simp only [State.endQueued_of_formats formats, kept]
    | _ => rfl
  rw [State.settle, flushed, State.pauseIfHeld, if_neg (fun h => engaged h.1)]

end Sys2Proof.Machine
end

