-- ==== Sys2Proof/Laws/Links.lean ====
section
/-! SUPPORT. The links: what a byte out changes and what it leaves, that the two directions do not disturb each other until a frame ends,
and the bytes the receive machine passes over. -/

namespace Sys2Proof.Machine

variable (f : Framer)

/-! ### The backlog and departures leave the receiving side alone -/

theorem Framer.takeFrom_frame (waiting : List Notice) :
    ((f.takeFrom waiting).rx = f.rx ∧ (f.takeFrom waiting).fifo = f.fifo ∧ (f.takeFrom waiting).inService = f.inService
      ∧ (f.takeFrom waiting).reservations = f.reservations ∧ (f.takeFrom waiting).retry = f.retry
      ∧ (f.takeFrom waiting).watches = f.watches ∧ (f.takeFrom waiting).wire = f.wire) := by
  induction waiting generalizing f with
  | nil => simp [Framer.takeFrom]
  | cons n rest ih =>
    unfold Framer.takeFrom
    split
    · simpa [Framer.enter] using ih (f.enter n)
    · simp

/-- What one byte out leaves as it was: everything but the outbound queue and what admits notices to it. -/
theorem Framer.sendByte_frame (l : Link) :
    ((f.sendByte l).rx = f.rx ∧ (f.sendByte l).fifo = f.fifo ∧ (f.sendByte l).inService = f.inService
      ∧ (f.sendByte l).reservations = f.reservations ∧ (f.sendByte l).retry = f.retry ∧ (f.sendByte l).watches = f.watches) := by
  have gone : (f.byteGone.rx = f.rx ∧ f.byteGone.fifo = f.fifo ∧ f.byteGone.inService = f.inService
      ∧ f.byteGone.reservations = f.reservations ∧ f.byteGone.retry = f.retry ∧ f.byteGone.watches = f.watches) := by
    unfold Framer.byteGone Framer.depart
    cases f.out with
    | nil => simp
    | cons head rest =>
      simp only
      split
      · obtain ⟨h1, h2, h3, h4, h5, h6, -⟩ := ({ f with out := rest, sent := 0 } : Framer).takeFrom_frame f.backlog
        exact ⟨h1, h2, h3, h4, h5, h6⟩
      · simp
  exact gone

/-- What a number of bytes out leaves as it was. -/
theorem Framer.sendBytes_frame (l : Link) (n : Nat) :
    ((f.sendBytes l n).rx = f.rx ∧ (f.sendBytes l n).fifo = f.fifo ∧ (f.sendBytes l n).inService = f.inService
      ∧ (f.sendBytes l n).reservations = f.reservations ∧ (f.sendBytes l n).retry = f.retry
      ∧ (f.sendBytes l n).watches = f.watches) := by
  induction n generalizing f with
  | zero => exact ⟨rfl, rfl, rfl, rfl, rfl, rfl⟩
  | succ n ih =>
    obtain ⟨h1, h2, h3, h4, h5, h6⟩ := f.sendByte_frame l
    obtain ⟨g1, g2, g3, g4, g5, g6⟩ := ih (f.sendByte l)
    exact ⟨g1.trans h1, g2.trans h2, g3.trans h3, g4.trans h4, g5.trans h5, g6.trans h6⟩

/-! ### A byte out does not look at the receive machine -/

theorem Framer.takeFrom_withRx (rx : Rx) (waiting : List Notice) :
    ({ f with rx := rx } : Framer).takeFrom waiting = { f.takeFrom waiting with rx := rx } := by
  induction waiting generalizing f with
  | nil => rfl
  | cons n rest ih =>
    by_cases free : 0 < f.freeSlots
    · have free' : 0 < ({ f with rx := rx } : Framer).freeSlots := free
      rw [Framer.takeFrom, Framer.takeFrom, if_pos free, if_pos free']
      exact ih (f.enter n)
    · have full : ¬ 0 < ({ f with rx := rx } : Framer).freeSlots := free
      rw [Framer.takeFrom, Framer.takeFrom, if_neg free, if_neg full]

theorem Framer.byteGone_withRx (rx : Rx) : ({ f with rx := rx } : Framer).byteGone = { f.byteGone with rx := rx } := by
  obtain ⟨_, _, _, out, _, _, _, _, _, _, _, _, _, _, _, _, _, _⟩ := f
  cases out with
  | nil => rfl
  | cons head rest =>
    simp only [Framer.byteGone, Framer.depart, Framer.drainBacklog]
    split
    · rw [← Framer.takeFrom_withRx]
    · rfl

theorem Framer.sendByte_withRx (l : Link) (rx : Rx) : ({ f with rx := rx } : Framer).sendByte l = { f.sendByte l with rx := rx } := by
  unfold Framer.sendByte
  rw [Framer.byteGone_withRx]
  rfl

/-- The bytes that go out may be taken before or after a change of the receive machine's state alone. -/
theorem Framer.sendBytes_withRx (l : Link) (rx : Rx) (n : Nat) :
    ({ f with rx := rx } : Framer).sendBytes l n = { f.sendBytes l n with rx := rx } := by
  induction n generalizing f with
  | zero => rfl
  | succ n ih =>
    change (({ f with rx := rx } : Framer).sendByte l).sendBytes l n = _
    rw [Framer.sendByte_withRx, ih]
    rfl

theorem Framer.sendBytes_succ (l : Link) (n : Nat) : f.sendBytes l (n + 1) = (f.sendBytes l n).sendByte l := by
  induction n generalizing f with
  | zero => rfl
  | succ n ih => exact ih (f.sendByte l)

/-! ### A link with no frame queued only moves its pins (R155, R157, R164) -/

theorem Framer.sendByte_of_empty {f : Framer} (empty : f.out = []) (l : Link) :
    f.sendByte l = { f with wire := f.wire ++ (f.outByte l).toList } := by
  simp [Framer.sendByte, Framer.byteGone, empty]

/-- With no frame queued the bytes out change the record of the pins alone, so a reset that is held keeps the framer as it left it. -/
theorem Framer.sends_of_empty {f : Framer} (empty : f.out = []) (t : Traffic) : ∃ wire, f.sends t = { f with wire := wire } := by
  suffices more : ∀ (l : Link) (n : Nat) (g : Framer), g.out = [] → ∃ wire, g.sendBytes l n = { g with wire := wire } from
    more t.link t.count { f with wire := [] } empty
  intro l n
  induction n with
  | zero => exact fun g _ => ⟨g.wire, rfl⟩
  | succ n ih =>
    intro g none
    obtain ⟨wire, h⟩ := ih (g.sendByte l) (by rw [Framer.sendByte_of_empty none]; exact none)
    exact ⟨wire, by rw [Framer.sendByte_of_empty none] at h; rw [Framer.sendBytes, Framer.sendByte_of_empty none, h]⟩

/-! ### The receive machine -/

/-- In HUNT a byte other than SYNC is passed over (R153). -/
theorem Framer.takeByte_hunt {f : Framer} (hunt : f.rx = .hunt) {b : Byte} (h : b ≠ Config.sync) : f.takeByte b = f := by
  simp [Framer.takeByte, hunt, h]

/-- In HUNT bytes without a SYNC change nothing (R153). -/
theorem Framer.foldl_takeByte_fill {f : Framer} (hunt : f.rx = .hunt) (fill : List Byte) (h : ∀ b ∈ fill, b ≠ Config.sync) :
    fill.foldl Framer.takeByte f = f := by
  induction fill with
  | nil => rfl
  | cons b rest ih =>
    rw [List.foldl_cons, Framer.takeByte_hunt hunt (h b (List.mem_cons_self ..)), ih (fun c m => h c (List.mem_cons_of_mem _ m))]

/-- On Link 0, byte positions that bring in no SYNC in HUNT do no more than send (R154). -/
theorem Framer.foldl_clock_fill {f : Framer} (hunt : f.rx = .hunt) (fill : List Byte) (h : ∀ b ∈ fill, b ≠ Config.sync) :
    fill.foldl Framer.clock f = f.sendBytes .link0 fill.length := by
  induction fill generalizing f with
  | nil => rfl
  | cons b rest ih =>
    have still : (f.sendByte .link0).rx = .hunt := (f.sendByte_frame .link0).1.trans hunt
    rw [List.foldl_cons, Framer.clock, Framer.takeByte_hunt still (h b (List.mem_cons_self ..)),
      ih still (fun c m => h c (List.mem_cons_of_mem _ m))]
    rfl

/-! ### Idle timers -/

/-- A context that is not due is left as it is by IDLE_TIMER_EXPIRY (R39, R40). -/
theorem State.expireDue_of_not_due {s : State} {h : Handle} (due : (s.context h).due = false) : s.expireDue h = s := by
  simp [State.expireDue, due]

/-- An expiry that is due frees the context and tells its owner (R39). -/
theorem State.expireDue_of_due {s : State} {h : Handle} {owner : Link} {timeout idle : Nat} {staged : List Staged}
    (opened : s.context h = .opened owner timeout idle staged) (due : timeout ≤ idle) :
    s.expireDue h = (s.freeContext h).offer owner (.txnExpired h) := by
  simp [State.expireDue, State.expire, opened, Context.due, due]

end Sys2Proof.Machine
end

