-- ==== Sys2Proof/Laws/Memory.lean ====
section
/-! SUPPORT. The bytes of the cell array: a read after a write, the canonical form, and the lines and sectors built from them. -/

namespace Sys2Proof.Machine

/-! ### The canonical form is kept -/

theorem Memory.wfFrom_mono {low high : Nat} (h : low ≤ high) : ∀ {m : Memory}, Memory.wfFrom high m = true → Memory.wfFrom low m = true
  | [], _ => rfl
  | (k, v) :: rest, hw => by
    simp only [Memory.wfFrom, Bool.and_eq_true, decide_eq_true_eq] at hw ⊢
    exact ⟨⟨by omega, hw.1.2⟩, hw.2⟩

theorem Memory.write_keeps_wfFrom (a : Nat) (v : Byte) :
    ∀ (m : Memory) (low : Nat), low ≤ a → Memory.wfFrom low m = true → Memory.wfFrom low (m.write a v) = true
  | [], low, hl, _ => by
    unfold Memory.write
    split
    · rfl
    · next hv => simp [Memory.wfFrom, hl, hv]
  | (k, u) :: rest, low, hl, hw => by
    simp only [Memory.wfFrom, Bool.and_eq_true, decide_eq_true_eq] at hw
    obtain ⟨⟨hk, hu⟩, hr⟩ := hw
    unfold Memory.write
    split
    · next hak =>
      split
      · simp [Memory.wfFrom, hk, hu, hr]
      · next hv => simp [Memory.wfFrom, hl, hv, hu, hr]; omega
    · split
      · next hak =>
        split
        · exact Memory.wfFrom_mono (by omega) hr
        · next hv =>
          subst hak
          simp [Memory.wfFrom, hl, hv, hr]
      · have ih := Memory.write_keeps_wfFrom a v rest (k + 1) (by omega) hr
        simp [Memory.wfFrom, hk, hu, ih]

/-- A write keeps the canonical form. -/
theorem Memory.write_keeps_wf {m : Memory} (h : m.wf = true) (a : Nat) (v : Byte) : (m.write a v).wf = true :=
  Memory.write_keeps_wfFrom a v m 0 (Nat.zero_le a) h

theorem Memory.filter_keeps_wfFrom (p : Host.Cell → Bool) :
    ∀ (m : Memory) (low : Nat), Memory.wfFrom low m = true → Memory.wfFrom low (m.filter p) = true
  | [], _, _ => rfl
  | (k, u) :: rest, low, hw => by
    simp only [Memory.wfFrom, Bool.and_eq_true, decide_eq_true_eq] at hw
    obtain ⟨⟨hk, hu⟩, hr⟩ := hw
    have ih := Memory.filter_keeps_wfFrom p rest (k + 1) hr
    rw [List.filter_cons]
    split
    · simp [Memory.wfFrom, hk, hu, ih]
    · exact Memory.wfFrom_mono (by omega) ih

/-- An erase keeps the canonical form. -/
theorem Memory.erase_keeps_wf {m : Memory} (h : m.wf = true) (low high : Nat) : (m.erase low high).wf = true :=
  Memory.filter_keeps_wfFrom _ m 0 h

/-- Any sequence of writes keeps the canonical form. -/
theorem Memory.writes_keep_wf {ι : Type} (address : ι → Nat) (value : ι → Byte) :
    ∀ (is : List ι) {m : Memory}, m.wf = true → (is.foldl (fun m i => m.write (address i) (value i)) m).wf = true
  | [], _, h => h
  | i :: is, _, h => Memory.writes_keep_wf address value is (Memory.write_keeps_wf h (address i) (value i))

/-- A line write is 16 byte writes. -/
theorem CellArray.writeLine_cells (a : CellArray) (loc : Loc) (content : Line) :
    (a.writeLine loc content).cells
      = (List.range 16).foldl (fun m i => m.write (lineAddress loc + i) (lineByte content i)) a.cells := by
  simp only [CellArray.writeLine]

theorem CellArray.writeLine_keeps_wf {a : CellArray} (h : a.cells.wf = true) (loc : Loc) (content : Line) :
    (a.writeLine loc content).cells.wf = true := by
  rw [CellArray.writeLine_cells]
  generalize List.range 16 = is
  exact Memory.writes_keep_wf (fun i => lineAddress loc + i) (lineByte content) is h

theorem CellArray.writeHeader_cells (a : CellArray) (x : Sector) (content : HeaderLine) :
    (a.writeHeader x content).cells = a.cells :=
  rfl

theorem CellArray.eraseSector_keeps_wf {a : CellArray} (h : a.cells.wf = true) (x : Sector) : (a.eraseSector x).cells.wf = true :=
  Memory.erase_keeps_wf h _ _

theorem CellArray.writeLines_keep_wf (x : Sector) :
    ∀ (lines : List (Nat × Line)) {a : CellArray}, a.cells.wf = true →
      (lines.foldl (fun b nl => if 1 ≤ nl.1 ∧ nl.1 ≤ 255 then b.writeLine ⟨x, nl.1⟩ nl.2 else b) a).cells.wf = true
  | [], _, h => h
  | nl :: rest, a, h => by
    refine CellArray.writeLines_keep_wf x rest ?_
    dsimp only
    split
    · exact CellArray.writeLine_keeps_wf h _ _
    · exact h

theorem CellArray.writeSector_keeps_wf {a : CellArray} (h : a.cells.wf = true) (x : Sector) (content : SectorContent) :
    (a.writeSector x content).cells.wf = true :=
  CellArray.writeLines_keep_wf x content.lines (CellArray.eraseSector_keeps_wf h x)

/-- The array after reset is in canonical form. -/
theorem State.reset_array_wf : State.reset.array.cells.wf = true :=
  rfl

/-! ### Reads after writes -/

theorem Memory.read_of_wfFrom_lt : ∀ {m : Memory} {low a : Nat}, Memory.wfFrom low m = true → a < low → m.read a = erasedByte
  | [], _, _, _, _ => rfl
  | (k, u) :: rest, low, a, hw, ha => by
    simp only [Memory.wfFrom, Bool.and_eq_true, decide_eq_true_eq] at hw
    unfold Memory.read
    rw [if_neg (by omega : ¬k = a)]
    exact Memory.read_of_wfFrom_lt hw.2 (by omega)

theorem Memory.read_write_wfFrom (a : Nat) (v : Byte) :
    ∀ (m : Memory) (low : Nat), Memory.wfFrom low m = true → (m.write a v).read a = v
  | [], _, _ => by
    unfold Memory.write
    split
    · next hv => simp [Memory.read, hv]
    · simp [Memory.read]
  | (k, u) :: rest, low, hw => by
    simp only [Memory.wfFrom, Bool.and_eq_true, decide_eq_true_eq] at hw
    obtain ⟨⟨hk, hu⟩, hr⟩ := hw
    unfold Memory.write
    split
    · next hak =>
      split
      · next hv =>
        unfold Memory.read
        rw [if_neg (by omega : ¬k = a), Memory.read_of_wfFrom_lt hr (by omega), hv]
      · simp [Memory.read]
    · split
      · next hak =>
        split
        · next hv =>
          subst hak
          rw [Memory.read_of_wfFrom_lt hr (by omega), hv]
        · simp [Memory.read]
      · next h1 h2 =>
        unfold Memory.read
        rw [if_neg (by omega : ¬k = a)]
        exact Memory.read_write_wfFrom a v rest (k + 1) hr

/-- A read after a write to the same address gives the byte written. -/
theorem Memory.read_write_same {m : Memory} (h : m.wf = true) (a : Nat) (v : Byte) : (m.write a v).read a = v :=
  Memory.read_write_wfFrom a v m 0 h

/-- A write leaves every other address as it was. -/
theorem Memory.read_write_other {a b : Nat} (hab : b ≠ a) (v : Byte) : ∀ m : Memory, (m.write a v).read b = m.read b
  | [] => by
    unfold Memory.write
    split
    · rfl
    · simp [Memory.read, Ne.symm hab]
  | (k, u) :: rest => by
    unfold Memory.write
    split
    · split
      · rfl
      · simp [Memory.read, Ne.symm hab]
    · split
      · next hak =>
        subst hak
        split
        · simp [Memory.read, Ne.symm hab]
        · simp [Memory.read, Ne.symm hab]
      · simp only [Memory.read, Memory.read_write_other hab v rest]

/-- An erase makes its addresses read erased and leaves the others as they were. -/
theorem Memory.read_erase (low high b : Nat) :
    ∀ m : Memory, (m.erase low high).read b = if low ≤ b ∧ b < high then erasedByte else m.read b
  | [] => by simp [Memory.erase, Memory.read]
  | (k, u) :: rest => by
    have ih := Memory.read_erase low high b rest
    unfold Memory.erase at ih ⊢
    rw [List.filter_cons]
    by_cases hk : (decide (k < low) || decide (high ≤ k)) = true
    · simp only [Bool.or_eq_true, decide_eq_true_eq] at hk
      rw [if_pos (by simpa using hk)]
      by_cases hb : k = b
      · subst hb
        rw [if_neg (by omega)]
        simp [Memory.read]
      · simp only [Memory.read, if_neg hb, ih]
    · simp only [Bool.or_eq_true, decide_eq_true_eq] at hk
      rw [if_neg (by simpa using hk), ih]
      by_cases hb : k = b
      · subst hb
        rw [if_pos (by omega), if_pos (by omega)]
      · simp only [Memory.read, if_neg hb]

/-- A sequence of writes leaves every address it does not write as it was. -/
theorem Memory.read_writes_other {ι : Type} (address : ι → Nat) (value : ι → Byte) (b : Nat) :
    ∀ (is : List ι) (m : Memory), (∀ i ∈ is, b ≠ address i) →
      (is.foldl (fun m i => m.write (address i) (value i)) m).read b = m.read b
  | [], _, _ => rfl
  | i :: is, m, h => by
    rw [List.foldl_cons, Memory.read_writes_other address value b is _ (fun j hj => h j (List.mem_cons_of_mem i hj)),
      Memory.read_write_other (h i List.mem_cons_self)]

/-- A line write changes no byte outside its line. -/
theorem CellArray.read_writeLine_other (a : CellArray) (loc : Loc) (content : Line) (b : Nat)
    (h : b < lineAddress loc ∨ lineAddress loc + 16 ≤ b) : (a.writeLine loc content).cells.read b = a.cells.read b := by
  rw [CellArray.writeLine_cells]
  have hb : ∀ i ∈ List.range 16, b ≠ lineAddress loc + i := by
    intro i hi
    have := List.mem_range.mp hi
    omega
  revert hb
  generalize List.range 16 = is
  exact Memory.read_writes_other (fun i => lineAddress loc + i) (lineByte content) b is a.cells

/-- Byte i of a line just written is byte i of its content. -/
theorem CellArray.read_writeLine_same {a : CellArray} (h : a.cells.wf = true) (loc : Loc) (content : Line) (i : Nat) (hi : i < 16) :
    (a.writeLine loc content).cells.read (lineAddress loc + i) = lineByte content i := by
  have split16 : List.range 16 = List.range i ++ i :: (List.range (15 - i)).map (fun j => i + 1 + j) := by
    have : ∀ i, i < 16 → List.range 16 = List.range i ++ i :: (List.range (15 - i)).map (fun j => i + 1 + j) := by decide
    exact this i hi
  rw [CellArray.writeLine_cells, split16, List.foldl_append, List.foldl_cons, Memory.read_writes_other]
  · exact Memory.read_write_same (Memory.writes_keep_wf _ _ _ h) _ _
  · intro j hj
    obtain ⟨n, _, rfl⟩ := List.mem_map.mp hj
    omega

/-- An erase of a sector: its bytes read erased, every other byte is as it was. -/
theorem CellArray.read_eraseSector (a : CellArray) (x : Sector) (b : Nat) :
    (a.eraseSector x).cells.read b = if x.val * 4096 ≤ b ∧ b < x.val * 4096 + 4096 then erasedByte else a.cells.read b :=
  Memory.read_erase _ _ b a.cells

end Sys2Proof.Machine
end

