-- ==== Sys2Proof/Laws/Operands.lean ====
section
/-! SUPPORT. The operands of requests: what the format step reads from each payload layout, what the key step and the gates answer. -/

namespace Sys2Proof.Machine

/-! ### Fields -/

/-- The two bytes of a 16-bit field read back as the field. -/
@[simp] theorem word16_extract (w : BitVec 16) : word16 (w.extractLsb' 8 8) (w.extractLsb' 0 8) = w := by
  apply BitVec.eq_of_toNat_eq
  simp only [word16, BitVec.toNat_append, BitVec.extractLsb'_toNat]
  have := w.isLt
  rw [← Nat.shiftLeft_add_eq_or_of_lt (by omega)]
  simp only [Nat.shiftRight_eq_div_pow, Nat.shiftLeft_eq]
  omega

@[simp] theorem be16_length (w : BitVec 16) : (be16 w).length = 2 := rfl
@[simp] theorem be32_length (w : Word32) : (be32 w).length = 4 := rfl

/-- A key of a payload's first two bytes. -/
theorem be16_append (w : BitVec 16) (rest : List Byte) : be16 w ++ rest = w.extractLsb' 8 8 :: w.extractLsb' 0 8 :: rest := rfl

/-- The number in a two-byte field, below 65536. -/
theorem toNat_ofNat16 {n : Nat} (h : n < 65536) : (BitVec.ofNat 16 n).toNat = n := by
  simp; omega

/-- The handle byte of a context names it. -/
@[simp] theorem handleOf_code (h : Handle) : handleOf (BitVec.ofNat 8 (h.val + 1)) = some h := by
  revert h; decide

/-- A handle byte names a context exactly when it is the context's number. -/
theorem handleOf_eq_some (b : Byte) (h : Handle) : handleOf b = some h ↔ h.val + 1 = b.toNat := by
  revert b h; decide

/-! ### Key step (R1) -/

/-- The key step of a request that needs a user key, in the words of R1. -/
theorem userKeyStep_eq (k : Key) :
    userKeyStep k = if k = 0 ∨ k = 0xFFFF then some .badKey else if 0xFF00 ≤ k.toNat then some .reservedKey else none := by
  unfold userKeyStep invalidKey reservedKey
  by_cases h0 : k = 0 ∨ k = 0xFFFF
  · rw [if_pos h0, if_pos]
    simpa using h0
  · have h1 : k.toNat ≤ 0xFFFE := by
      have h2 := k.isLt
      have h3 : k.toNat ≠ 0xFFFF := fun e => h0 (.inr (BitVec.eq_of_toNat_eq (by simpa using e)))
      omega
    rw [if_neg h0, if_neg (by simpa using h0)]
    simp [h1]

/-- The key step of UNSTAGE and WATCH. -/
theorem anyKeyStep_eq (k : Key) : anyKeyStep k = if k = 0 ∨ k = 0xFFFF then some .badKey else none := by
  unfold anyKeyStep invalidKey refuseIf
  by_cases h0 : k = 0 ∨ k = 0xFFFF
  · rw [if_pos h0, if_pos (by simpa using h0)]
  · rw [if_neg h0, if_neg (by simpa using h0)]

/-- A user key passes both key steps. -/
theorem userKeyStep_of_userKey {k : Key} (h : userKey k) : userKeyStep k = none := by
  obtain ⟨h1, h2⟩ := h
  rw [userKeyStep_eq, if_neg, if_neg (by omega)]
  rintro (rfl | rfl) <;> simp at h1 h2

/-! ### Store gate (R21) -/

theorem readGate_eq (store : Store) : readGate store = if store.readable then none else some .notReady := by
  cases store <;> rfl

theorem writeGate_eq (store : Store) :
    writeGate store = if store = .ready then none else if store.readable then some .readOnly else some .notReady := by
  cases store <;> rfl

/-! ### Format step (R168, R183) -/

/-- A payload of fixed part and value, for WRITE. -/
theorem parseWrite_layout (k : Key) (len : BitVec 16) (v : List Byte) :
    parseWrite (be16 k ++ be16 len ++ v)
      = if 256 < len.toNat then .error .tooLong else if v.length = len.toNat then .ok (k, v) else .error .badFormat := by
  simp only [be16, List.cons_append, List.nil_append, parseWrite, word16_extract, parseValue]
  split
  · rfl
  · split <;> rfl

theorem parseKey_layout (k : Key) : parseKey (be16 k) = .ok k := by
  simp [be16, parseKey]

theorem parseHandleKey_layout (b : Byte) (k : Key) : parseHandleKey ([b] ++ be16 k) = .ok (b, k) := by
  simp [be16, parseHandleKey]

theorem parseReadOwn_layout (k : Key) (b : Byte) : parseReadOwn (be16 k ++ [1, b]) = .ok (k, b) := by
  simp [be16, parseReadOwn]

theorem parseReadCommitted_layout (k : Key) (handle : List Byte) (h : handle.length ≤ 1) :
    parseReadCommitted (be16 k ++ [0] ++ handle) = .ok k := by
  match handle, h with
  | [], _ => simp [be16, parseReadCommitted]
  | [_], _ => simp [be16, parseReadCommitted]

theorem parseList_layout (k : Key) (m : Byte) (h1 : 1 ≤ m.toNat) (h2 : m.toNat ≤ 32) :
    parseList (be16 k ++ [m]) = .ok (k, m.toNat) := by
  simp [be16, parseList, h1, h2]

theorem parseWatch_layout (op : Byte) (k : Key) : parseWatch op ([op] ++ be16 k) = .ok k := by
  simp [be16, parseWatch]

/-- A payload of fixed part and value, for STAGE. -/
theorem parseStage_value (b : Byte) (k : Key) (v : List Byte) (h : v.length ≤ 256) :
    parseStage ([b] ++ be16 k ++ [0] ++ be16Nat v.length ++ v) = .ok (b, k, .value v) := by
  have hn : (BitVec.ofNat 16 v.length).toNat = v.length := toNat_ofNat16 (by omega)
  simp [be16, be16Nat, parseStage, parseValue, parseChange, hn, Nat.not_lt.mpr h, Except.map]

theorem parseStage_delete (b : Byte) (k : Key) : parseStage ([b] ++ be16 k ++ [1] ++ be16Nat 0) = .ok (b, k, .delete) := by
  have hn : word16 (BitVec.extractLsb' 8 8 (BitVec.ofNat 16 0)) (BitVec.extractLsb' 0 8 (BitVec.ofNat 16 0)) = 0 := by decide
  simp only [be16, be16Nat, List.cons_append, List.nil_append, parseStage, parseValue, parseChange, hn, word16_extract]
  rfl

end Sys2Proof.Machine
end

