-- ==== Sys2Proof/Laws/Passes.lean ====
section
/-! SUPPORT. Where a pass comes to a pause point, and what completions, JOB_START and a step without a command do where none is before it. -/

namespace Sys2Proof.Machine

variable {s : State}

/-! ### When a pause point is before a pass (R106, R147; log entry 28) -/

/-- Outside RECLAIMING no pass has a pause point before it. -/
theorem State.pausePoint_of_not_reclaiming (other : ∀ mode, s.engine ≠ .reclaiming mode) : s.pausePoint = none := by
  unfold State.pausePoint
  split
  · exact absurd ‹_› (other _)
  · rfl

/-- The pass with a pause point before it is the pass of the state: the engine is RECLAIMING, it runs, and it has no copy in progress. -/
theorem State.pausePoint_some {p : Pass} (h : s.pausePoint = some p) :
    s.pass = some p ∧ (∃ mode, s.engine = .reclaiming mode) ∧ p.running = true ∧ p.copy = none := by
  unfold State.pausePoint at h
  split at h
  · rename_i mode engine
    obtain ⟨pass, between⟩ := Option.filter_eq_some_iff.mp h
    simp only [Pass.betweenSteps, Bool.and_eq_true, Option.isNone_iff_eq_none] at between
    exact ⟨pass, ⟨mode, engine⟩, between.1.1, between.1.2⟩
  · exact absurd h (by simp)

/-! ### The arrival (R106, R147) -/

/-- In LOW the pass stops and the engine is PAUSED, whatever its mode (R147). -/
theorem State.arrive_of_low (p : Pass) (low : s.supply = .low) : s.arrive p = s.suspendPass .paused := by
  simp [State.arrive, low]

/-- In NORMAL a background pass gives the array to a queued job (R106). -/
theorem State.arrive_of_queued {p : Pass} (normal : s.supply = .normal) (background : p.mode = .background)
    (queued : s.queue ≠ []) : s.arrive p = s.suspendPass .idle := by
  simp [State.arrive, normal, background, queued]

/-- In NORMAL a pass in mode URGENT, or one with no job queued, goes on (R106). -/
theorem State.arrive_goes_on {p : Pass} (normal : s.supply = .normal) (alone : p.mode = .background → s.queue = []) :
    s.arrive p = s.passOn p := by
  have stays : ¬ (p.mode = .background ∧ s.queue ≠ []) := fun h => h.2 (alone h.1)
  rw [State.arrive, if_neg (by simp [normal]), if_neg stays]

/-! ### Events that meet no pause point -/

/-- With an operation in progress a completion takes no pause point first. -/
theorem State.caughtUp_of_ops (busy : s.ops ≠ []) : s.caughtUp = s := by
  simp [State.caughtUp, busy]

/-- A line of an image completes (R49). -/
theorem State.lineProgramDone_of_image {w : Writer} {start : Loc} {n : Nat} {pattern expected : Line}
    {rest : List ArrayOp} (readback : LineReadback) (head : s.ops = .image w start n pattern expected :: rest) :
    s.lineProgramDone readback =
      (let loc : Loc := ⟨start.sector, start.line + n⟩
       let content := contentAfter readback (s.array.readLine loc) expected
       let t := s.popOp rest (s.array.writeLine loc content)
       if content = expected then t.linePassed w start n else t.lineFailed w start n) := by
  rw [State.lineProgramDone, State.caughtUp_of_ops (by simp [head])]
  simp [State.lineCompleted, head]

/-- A header program completes (R49). -/
theorem State.lineProgramDone_of_header {x : Sector} {field : HeaderField} {pattern expected : HeaderLine}
    {rest : List ArrayOp} (readback : LineReadback) (head : s.ops = .header x field pattern expected :: rest) :
    s.lineProgramDone readback =
      (let content := contentAfter readback s.array.headers[x] expected
       (s.popOp rest (s.array.writeHeader x content)).headerDone x (decide (content = expected)) field) := by
  rw [State.lineProgramDone, State.caughtUp_of_ops (by simp [head])]
  simp [State.lineCompleted, head]

/-- An erase completes with a readback that can be (R50). -/
theorem State.sectorEraseDone_of_erase {x : Sector} {e : Eraser} {rest : List ArrayOp} {readback : EraseReadback}
    (head : s.ops = .erase x e :: rest) (possible : eraseCanLeave readback = true) :
    s.sectorEraseDone readback = s.eraseVerified x e rest (s.array.afterErase x readback) := by
  rw [State.sectorEraseDone, State.caughtUp_of_ops (by simp [head])]
  simp [State.eraseCompleted, head, possible]

/-- With no pause point before a pass, JOB_START takes nothing back. -/
theorem State.yielded_of_no_pausePoint (absent : s.pausePoint = none) : s.yielded = s := by
  simp [State.yielded, absent]

/-- JOB_START in an IDLE engine with NORMAL supply takes the head job (R72). -/
theorem State.jobStart_of_idle {j : Job} {rest : List Job} (idle : s.engine = .idle) (normal : s.supply = .normal)
    (queue : s.queue = j :: rest) : s.jobStart = s.startJob j rest := by
  have still : s.yielded = s := State.yielded_of_no_pausePoint (State.pausePoint_of_not_reclaiming (by simp [idle]))
  simp [State.jobStart, queue, still, idle, normal]

/-! ### A step without a command (log entries 10 and 28) -/

/-- With the reset released and no pause point before a pass, a millisecond passes. -/
theorem State.quiet_of_no_pausePoint (released : s.held = false) (absent : s.pausePoint = none) : s.quiet = s.tick := by
  simp [State.quiet, State.unlessHeld, released, absent]

/-- A pass comes to the pause point before it. -/
theorem State.quiet_of_pausePoint {p : Pass} (released : s.held = false) (point : s.pausePoint = some p) :
    s.quiet = (s.arrive p).settle := by
  simp [State.quiet, State.unlessHeld, released, point]

end Sys2Proof.Machine
end

