-- ==== Sys2Proof/Tests/Slice0.lean ====
section
/-! SUPPORT. Small tests of single steps, with expected results taken from the data sheet's tables and worked examples, and for each
statement with hypotheses a witness that meets them. -/

namespace Sys2Proof.Tests

open Sys2Proof Sys2Proof.Machine

set_option Elab.async false

/-! ### States to step from -/

/-- The next state of a command; the state itself where there is none. -/
def next (s : State) (c : Instr) : State :=
  match exec c s with
  | .next t => t
  | _ => s

/-- A READY store right after a format: sector 0 is OPEN, all others are ERASED with erase count 1, and nothing is going on. -/
def ready : State :=
  { State.reset with
    held := false
    store := .ready
    engine := .idle
    supply := .normal
    mount := none
    generationNext := 0x100
    openSequenceNext := 2
    epoch := 1
    sectors := (Vector.replicate 32 ⟨.erased, 1, 0, 0, 0⟩).set (0 : Sector) ⟨.opened 1 1, 1, 0, 0, 0⟩ }

/-- A state whose executor takes this request of a link next. -/
def asking (s : State) (l : Link) (r : Request) : State :=
  s.setLink l { s.link l with fifo := [r], reservations := 1 }

/-- The next state where no command waits. -/
def quieted (s : State) : State :=
  match step { s with pending := [] } with
  | .next t => t
  | _ => s

/-- The last frame a link has queued. -/
def last (s : State) (l : Link) : Option Frame :=
  (s.link l).out.getLast?

/-- `ready` with a LIVE key 0x0520 at sector 3, line 40, generation 0x00000400 (example of section 2.4). -/
def withKey : State :=
  { ready with directory := [⟨0x0520, .live, ⟨3, 40⟩, 12, 0x400, .solo⟩] }

/-- `withKey` with context 1 OPEN for Link 0, and context 2 OPEN for Link 1 and holding 0x0520 with 12 staged bytes. -/
def staged12 : List Staged :=
  [⟨0x0520, .value (List.replicate 12 0x77), some 0x400⟩]

@[inherit_doc staged12]
def withContexts : State :=
  (({ withKey with holds := [(0x0520, .context 1)], poolFree := 255 } : State).setContext 0 (.opened .link0 5000 7 [])).setContext 1
    (.opened .link1 5000 9 staged12)

/-! ### Well-formedness: each check refuses an ill-formed command -/

theorem test_wf_csRise : (Instr.csRise [] (List.replicate 8 true)).wf = false ∧ (Instr.csRise [] (List.replicate 7 true)).wf = true := by
  decide +kernel

theorem test_wf_frameSent : (Instr.frameSent (.spi [])).wf = false ∧ (Instr.frameSent (.uart [1] 0)).wf = false
    ∧ (Instr.frameSent (.spi [0])).wf = true ∧ (Instr.frameSent (.uart [] 1)).wf = true := by
  decide +kernel

theorem test_wf_reset : (Instr.reset 0 ⟨0, [(256, 0)]⟩).wf = false ∧ (Instr.reset 0 ⟨0, [(0, 0)]⟩).wf = false
    ∧ (Instr.reset 0 ⟨0, [(2, 0), (2, 1)]⟩).wf = false ∧ (Instr.reset 0 ⟨0, [(1, 0), (255, 1)]⟩).wf = true := by
  decide +kernel

theorem test_wf_sectorEraseDone : (Instr.sectorEraseDone (.reads ⟨0, [(3, 0), (1, 0)]⟩)).wf = false
    ∧ (Instr.sectorEraseDone (.reads ⟨0, [(1, 0), (3, 0)]⟩)).wf = true := by
  decide +kernel

/-- No row of the table gives bits, so no word spells a command (log entry 7). -/
theorem test_no_word_spells_a_command : decodeTableWord 8 0xA5 = none ∧ State.reset.withFetchWord 8 0xA5 = State.reset :=
  ⟨rfl, rfl⟩

/-! ### The CHECK, frames and acceptance -/

/-- The check value of R152's CRC for the nine ASCII digits: CRC-16 with polynomial 0x1021 and initial value 0xFFFF gives 0x29B1. -/
theorem test_crc16_check_value : crc16 [0x31, 0x32, 0x33, 0x34, 0x35, 0x36, 0x37, 0x38, 0x39] = 0x29B1 := by
  decide +kernel

/-- LF0 of the example of section 9.12: 11 occupied slots, and the retry cache holds TAG 0x3F, TYPE READ. The head is a long reply, so that
none leaves its slot while the burst comes in. -/
def crowded : State :=
  ready.setLink .link0
    { Framer.reset with
      out := ⟨0x3D, 0x83, List.replicate 256 0⟩ :: List.replicate 10 ⟨0x3E, 0x91, []⟩
      retry := some ⟨0x3F, 0x10, ⟨0x3F, 0x90, [0x20]⟩⟩ }

/-- One READ of the burst. -/
def burst (tag : Byte) (s : State) : State :=
  let bytes := (Frame.mk tag 0x10 [0x05, 0x20, 0x00]).bytes
  next s (.frameReceived .spi bytes.dropLast (bytes.getLastD 0))

/-- What the rows of the table of section 9.12 show: FIFO, occupied slots, reservations, DROPPED. -/
def figures (s : State) : Nat × Nat × Nat × Nat :=
  (s.lf0.fifo.length, s.lf0.out.length, s.lf0.reservations, s.lf0.dropped.toNat)

/-- Rows 1 to 4 of section 9.12: four requests are taken. -/
def crowded4 : State :=
  burst 0x43 (burst 0x42 (burst 0x41 (burst 0x40 crowded)))

theorem test_burst_rows_1_to_4 : figures (burst 0x40 crowded) = (1, 11, 1, 0) ∧ figures crowded4 = (4, 11, 4, 0) := by
  decide +kernel

/-- Rows 5 to 7 of section 9.12: OVERRUN, a drop, a repeat in flight; and the repeat of 0x3F that finds no slot. -/
theorem test_burst_rows_5_to_7 :
    figures (burst 0x44 crowded4) = (4, 12, 4, 0) ∧ last (burst 0x44 crowded4) .link0 = some ⟨0x44, 0x90, [0x60]⟩
      ∧ figures (burst 0x45 (burst 0x44 crowded4)) = (4, 12, 4, 1)
      ∧ figures (burst 0x41 (burst 0x45 (burst 0x44 crowded4))) = (4, 12, 4, 1)
      ∧ figures (burst 0x3F (burst 0x45 (burst 0x44 crowded4))) = (4, 12, 4, 2) := by
  decide +kernel

/-- A repeat with a free slot is answered from the retry cache (R158 step 1). -/
theorem test_retry_answers : last (burst 0x3F crowded) .link0 = some ⟨0x3F, 0x90, [0x20]⟩ ∧ figures (burst 0x3F crowded) = (0, 12, 0, 0) := by
  decide +kernel

/-- A LENGTH of 273 abandons the frame at its second LENGTH byte; a frame cut before its last byte counts in CUT_FRAMES (R153, R154). -/
theorem test_abandon_and_cut :
    (next ready (.frameAbandoned (.uart 0) [0xA5, 0x01] 0x11)).lf1.checkErrors = 1
      ∧ (next ready (.csRise ((Frame.mk 1 2 []).bytes.take 6) [true])).lf0.cutFrames = 1
      ∧ (next ready (.gapTimerExpiry [] 0)).lf1 = ready.lf1 := by
  decide +kernel

/-- A window moves as many bytes out as in: 0xFF with no frame queued, and nothing without a clock. A window that ends inside a byte
sends that byte again in the next one (R154, R155, R164). -/
theorem test_byte_positions :
    (next ready (.csRise [1, 2, 3] [])).lf0.wire = [0xFF, 0xFF, 0xFF] ∧ (next ready (.csRise [] [])).lf0.wire = []
      ∧ (next crowded (.csRise [0, 0, 0] [true, false])).lf0.wire = [0xA5, 0x01, 0x00]
      ∧ (next (next crowded (.csRise [0, 0, 0] [true, false])) (.csRise [0, 0] [])).lf0.wire = [0x3D, 0x83]
      ∧ (next (next crowded (.csRise [0, 0, 0] [true, false])) (.csRise [0, 0] [])).lf0.sent = 5
      ∧ (next ready (.gapTimerExpiry [] 4)).lf1.wire = [] := by
  decide +kernel

/-- A reply that leaves its slot is followed by the next frame at the next byte position (R155). -/
theorem test_frame_sent :
    (next (ready.setLink .link0 { Framer.reset with out := [⟨1, 0x90, []⟩, ⟨2, 0x91, []⟩] }) (.frameSent (.spi (List.replicate 9 0)))).lf0.out
        = [⟨2, 0x91, []⟩]
      ∧ (next (ready.setLink .link0 { Framer.reset with out := [⟨1, 0x90, []⟩, ⟨2, 0x91, []⟩] }) (.frameSent (.spi (List.replicate 9 0)))).lf0.wire.drop 7
        = [0xA5, 0x00] := by
  decide +kernel

/-! ### Reset, mount, supply and timers -/

/-- A blank part comes up BLANK with generation 1 next, and offers MOUNTED to both links (R115). -/
theorem test_blank_mount : (next State.reset (.resetRelease .normal .baud115200)).store = .blank
    ∧ (last (next State.reset (.resetRelease .normal .baud115200)) .link1).map (·.typ) = some 0x60 := by
  decide +kernel

/-- A second SUPPLY_LOW changes nothing; the first is announced (R142). -/
theorem test_supply_low : (next ready .supplyLow).supply = .low ∧ last (next ready .supplyLow) .link0 = some ⟨0, 0x64, [0, 1]⟩
    ∧ next (next ready .supplyLow) .supplyLow = next ready .supplyLow := by
  decide +kernel

/-- `withContexts` with the idle timer of context 2 at its timeout. -/
def due : State :=
  withContexts.setContext 1 (.opened .link1 5000 5000 staged12)

/-- Expiry frees the context and its key, and TXN_EXPIRED goes to its owner alone; below the timeout there is none (R39, R40). -/
theorem test_expiry : (next due (.idleTimerExpiry 1)).holds = [] ∧ (next due (.idleTimerExpiry 1)).poolFree = 256
    ∧ last (next due (.idleTimerExpiry 1)) .link1 = some ⟨0, 0x63, [0, 2]⟩
    ∧ (next due (.idleTimerExpiry 1)).lf0 = due.lf0 ∧ next withContexts (.idleTimerExpiry 1) = withContexts := by
  decide +kernel

/-- An empty queue lets a millisecond pass: what is due expires, other timers count (log entry 10). -/
theorem test_tick : due.tick = (next due (.idleTimerExpiry 1)).setContext 0 (.opened .link0 5000 8 []) := by
  decide +kernel

/-! ### Requests -/

/-- The reply of one command to one request of a link. -/
def reply (s : State) (l : Link) (typ : Byte) (payload : List Byte) (c : Instr) : Option (List Byte) :=
  (last (next (asking s l ⟨9, typ, payload⟩) c) l).map (·.payload)

/-- Rows 2 to 4 of the example of section 2.4: a held key refuses the other link's STAGE and both links' WRITE. -/
theorem test_two_links_claim_one_key :
    reply withContexts .link0 0x21 ([1, 0x05, 0x20, 0, 0, 12] ++ List.replicate 12 1) (.stage .deasserted) = some [0x21]
      ∧ reply withContexts .link0 0x12 ([0x05, 0x20, 0, 12] ++ List.replicate 12 1) (.write .deasserted) = some [0x21]
      ∧ reply withContexts .link1 0x12 ([0x05, 0x20, 0, 12] ++ List.replicate 12 1) (.write .deasserted) = some [0x21] := by
  decide +kernel

/-- Rows 5 and 6 of the example of section 2.4: a re-stage of 20 bytes takes 2 units, an UNSTAGE leaves 0 entries and no holder. -/
theorem test_restage_and_unstage :
    reply withContexts .link1 0x21 ([2, 0x05, 0x20, 0, 0, 20] ++ List.replicate 20 1) (.stage .deasserted) = some [0, 1, 0, 254]
      ∧ reply withContexts .link1 0x22 [2, 0x05, 0x20] .unstage = some [0, 0]
      ∧ (next (asking withContexts .link1 ⟨9, 0x22, [2, 0x05, 0x20]⟩) .unstage).holds = [] := by
  decide +kernel

/-- The example of section 1.7 before its steps: 7648 live lines, live capacity 7650. -/
def nearCapacity : State :=
  { ready with
    directory := [⟨0x0400, .live, ⟨3, 40⟩, 64, 0x400, .solo⟩]
    sectors := (Vector.replicate 32 ⟨.full 1, 1, 246, 0, 9⟩).set (0 : Sector) ⟨.opened 1 23, 1, 22, 0, 0⟩ }

/-- Steps 1 and 2 of section 1.7: the rewrite is STORE_FULL, the delete is accepted with 1 reserved line. -/
theorem test_rewrite_near_capacity : nearCapacity.liveLines = 7648 ∧ nearCapacity.liveCapacity = 7650
    ∧ reply nearCapacity .link0 0x12 ([0x04, 0x00, 0, 64] ++ List.replicate 64 1) (.write .deasserted) = some [0x23]
    ∧ reply nearCapacity .link0 0x13 [0x04, 0x00] (.delete .deasserted) = some [1, 0, 1]
    ∧ (next (asking nearCapacity .link0 ⟨9, 0x13, [0x04, 0x00]⟩) (.delete .deasserted)).reservedLines = 1 := by
  decide +kernel

/-- Tickets run from 65535 to 1 (R68, example of section 4.1). -/
theorem test_ticket_wraps : (next (asking { ready with nextTicket := 0xFFFF } .link0 ⟨9, 0x3A, []⟩) .reclaim).nextTicket = 1
    ∧ reply { ready with nextTicket := 0xFFFF } .link0 0x3A [] .reclaim = some [1, 0xFF, 0xFF] := by
  decide +kernel

/-- The table of the example of section 7.6: zone 0 GUARDED, zone 1 closed to Link 0. -/
def zoned : State :=
  { ready with
    zones := ((Vector.replicate 8 none).set 0 (some ⟨0x0100, 0x01FF, true, true, true, false⟩)).set 1
      (some ⟨0x8000, 0x80FF, false, true, false, false⟩) }

/-- Events 1 and 2 of the example of section 7.6; and GUARDED with WP asserted. -/
theorem test_zone_check :
    reply zoned .link0 0x12 [0x80, 0x02, 0, 0] (.write .deasserted) = some [0x50]
      ∧ reply zoned .link1 0x12 [0x80, 0x02, 0, 0] (.write .deasserted) = some [1, 0, 1]
      ∧ reply zoned .link0 0x12 [0x01, 0xFF, 0, 0] (.write .asserted) = some [0x50]
      ∧ reply zoned .link0 0x12 [0x01, 0xFF, 0, 0] (.write .deasserted) = some [1, 0, 1] := by
  decide +kernel

/-- Events 3 and 4 of the example of section 7.6: a ZONE_SET reserves 5 lines, and a second one is BUSY while it is outstanding. -/
def freezing : State :=
  next (asking { zoned with directory := [⟨0xFFE0, .live, ⟨3, 40⟩, 64, 0x900, .solo⟩] } .link1
    ⟨9, 0x39, [1, 0, 0x80, 0x00, 0x80, 0xFF, 0, 1, 0, 1]⟩) (.zoneSetDefine .deasserted)

@[inherit_doc freezing]
theorem test_zone_set : freezing.reservedLines = 5 ∧ freezing.slotReservations = 0
    ∧ reply freezing .link1 0x39 [0, 0, 0x01, 0x00, 0x01, 0x7F, 1, 1, 1, 0] (.zoneSetDefine .deasserted) = some [0x44]
    ∧ reply freezing .link1 0x39 [0, 1] (.zoneSetClear .deasserted) = some [0x44]
    ∧ reply zoned .link1 0x39 [7, 1] (.zoneSetClear .deasserted) = some [1, 0, 1] := by
  decide +kernel

/-- READ of a LIVE key whose lines are erased, and LIST from key 1 (R8, R9, R184). -/
theorem test_read_and_list :
    reply withKey .link1 0x10 [0x05, 0x20, 0] .readCommitted = some ([0, 0, 0, 4, 0, 0, 0, 12] ++ List.replicate 12 0xFF)
      ∧ reply withKey .link1 0x11 [0, 1, 32] .list = some [0, 1, 0x05, 0x20, 0, 12, 0, 0, 4, 0, 0, 0] := by
  decide +kernel

/-- READ OWN and TXNINFO show the staged value (R45, R46). -/
theorem test_own_view :
    reply withContexts .link1 0x10 [0x05, 0x20, 1, 2] .readOwn = some ([0, 0, 0, 4, 0, 1, 0, 12] ++ List.replicate 12 0x77)
      ∧ reply withContexts .link1 0x25 [2] .txninfo
        = some [0, 1, 0x13, 0x88, 0, 9, 1, 0x05, 0x20, 0, 0, 12, 1, 0, 0, 4, 0] := by
  decide +kernel

/-- BEGIN takes the lowest handle, COMMIT of an empty list frees the context with OK, and ABORT frees its own (R25, R37, R41). -/
theorem test_begin_commit_abort :
    reply ready .link0 0x20 [0, 0] .begin = some [0, 1]
      ∧ reply withContexts .link0 0x23 [1] (.commit .deasserted) = some [0]
      ∧ reply withContexts .link1 0x23 [2] (.commit .deasserted) = some [1, 0, 1]
      ∧ reply withContexts .link1 0x24 [2] .abort = some [0] ∧ reply withContexts .link0 0x24 [2] .abort = some [0x31] := by
  decide +kernel

/-- WATCH_ADD, WATCH_REMOVE and WATCH_CLEAR answer the number of keys after them (R191, R192). -/
theorem test_watches :
    reply ready .link0 0x30 [0, 2, 0] .watchAdd = some [0, 1] ∧ reply ready .link0 0x30 [1, 2, 0] .watchRemove = some [0x20]
      ∧ reply ready .link0 0x30 [2, 0, 0] .watchClear = some [0, 0] := by
  decide +kernel

/-- HELLO gives the identity and aborts the link's open context (R167); NOTICES refuses a mask with a high bit (R178); an unknown TYPE is
refused (R168). -/
theorem test_session :
    (reply withContexts .link0 0x01 [0x1F] .hello).map (·.take 6) = some [0, 0x0A, 0x17, 0x32, 0x08, 0x01]
      ∧ (reply withContexts .link0 0x01 [0x1F] .hello).map (·.getLast?) = some (some 1)
      ∧ reply ready .link0 0x31 [0x20] .notices = some [0x11] ∧ reply ready .link0 0x7E [] .badType = some [0x10] := by
  decide +kernel

/-- HELLO discards the queued notices other than JOB_DONE; the head one stays once its first byte has gone out (R166). -/
theorem test_hello_discards_notices :
    let noticed (sent : Nat) := (ready.setLink .link0 { Framer.reset with out := [⟨0, 0x64, [0, 1]⟩, ⟨1, 0x61, []⟩, ⟨2, 0x65, []⟩], sent := sent })
    (next (asking (noticed 0) .link0 ⟨9, 0x01, [0x1F]⟩) .hello).lf0.out.map (·.typ) = [0x61, 0x81]
      ∧ (next (asking (noticed 1) .link0 ⟨9, 0x01, [0x1F]⟩) .hello).lf0.out.map (·.typ) = [0x64, 0x61, 0x81] := by
  decide +kernel

/-- The replies of the information requests have the lengths that R184's layouts add up to. -/
theorem test_information_lengths :
    (reply ready .link0 0x02 [] (.stat .asserted)).map List.length = some 29
      ∧ (reply ready .link0 0x03 [] .sectors).map List.length = some 257
      ∧ (reply ready .link0 0x04 [1] .linkstat).map List.length = some 24
      ∧ (reply ready .link0 0x38 [] .zones).map List.length = some 65 := by
  decide +kernel

/-- FORMAT of a BLANK part is accepted, and refused while a frozen zone stands (R180). -/
theorem test_format :
    reply { ready with store := .blank } .link0 0x3F [] .format = some [1, 0, 1]
      ∧ reply { zoned with zones := zoned.zones.set 1 (some ⟨0x8000, 0x80FF, false, true, false, true⟩) } .link0 0x3F [] .format
        = some [0x53] := by
  decide +kernel

/-! ### The array and its jobs -/

/-- A prepared block and an open sequence read back as they were written, and an erased header reads as absent (R53, R54). -/
theorem test_header_round_trip :
    readPrepared (preparedPattern 7 9) = .valid (7, 9) ∧ readOpenSequence (preparedPattern 7 9 &&& openSequencePattern 1500) = .valid 1500
      ∧ readPrepared (BitVec.allOnes 176) = .absent ∧ readPrepared 0 = .torn := by
  decide +kernel

/-- The sectors of the example of section 3.6, with sector 11 FULL and every other sector RETIRED. -/
def erasedFour : State :=
  { ready with
    queue := [⟨1, .soloDelete 0x100, .link0, 1, 0⟩]
    openSequenceNext := 50
    sectors := (((((Vector.replicate 32 ⟨.retired, 1, 0, 0, 0⟩).set 3 ⟨.erased, 41, 0, 0, 0⟩).set 8 ⟨.erased, 40, 0, 0, 0⟩).set 19
      ⟨.erased, 40, 0, 0, 0⟩).set 26 ⟨.erased, 44, 0, 0, 0⟩).set 11 ⟨.full 4, 7, 0, 0, 255⟩ }

/-- Section 3.6: a host job's open request takes sector 8; when its program fails, sector 8 is RETIRED and 19 is tried with the next
open sequence. -/
theorem test_open_request :
    erasedFour.reserveSector = some 26
      ∧ (next erasedFour .jobStart).ops.map (fun o => match o with
          | .header x (.openSequence .host q) _ _ => (x.val, q.toNat)
          | _ => (99, 0)) = [(8, 50)]
      ∧ (next (next erasedFour .jobStart) (.lineProgramDone (.reads 0))).sectors[8].state = .retired
      ∧ (next (next erasedFour .jobStart) (.lineProgramDone (.reads 0))).ops.map (fun o => match o with
          | .header x (.openSequence .host q) _ _ => (x.val, q.toNat)
          | _ => (99, 0)) = [(99, 0), (19, 51)] := by
  decide +kernel

/-- The sectors of the example of section 5.2; sector 13 has the erase count given. -/
def wearing (count : Word32) : State :=
  { ready with
    sectors := ((((((Vector.replicate 32 ⟨.retired, 1, 0, 0, 0⟩).set 2 ⟨.full 1, 1180, 215, 0, 40⟩).set 7 ⟨.full 2, 1175, 143, 0, 112⟩).set 9
      ⟨.full 3, 1190, 143, 0, 112⟩).set 13 ⟨.full 4, count, 255, 0, 0⟩).set 21 ⟨.erased, 1202, 0, 0, 0⟩).set 30
        ⟨.opened 5 10, 1188, 9, 0, 0⟩ }

/-- Section 5.2: the wear choice takes sector 13 at a spread of 299, the stale choice sector 7 at a spread of 202. -/
theorem test_victim_choice :
    ((next (wearing 903) .backgroundPassStart).pass.map (·.victim.val)) = some 13
      ∧ ((next (wearing 1000) .backgroundPassStart).pass.map (·.victim.val)) = some 7 := by
  decide +kernel

/-- The commit of the example of section 1.6 as its MARK completes, with Link 0 watching 0x0200 and 0x0110 in that order. -/
def committing : State :=
  (({ ready with
    directory := [⟨0x0100, .live, ⟨3, 40⟩, 20, 0x301, .solo⟩, ⟨0x0120, .deleted, ⟨5, 12⟩, 0, 0x305, .solo⟩,
      ⟨0x0200, .live, ⟨4, 200⟩, 100, 0x310, .tagged⟩]
    marks := [⟨0x310, ⟨4, 208⟩, 1⟩]
    reservedLines := 6
    slotReservations := 1
    generationNext := 0x31B
    engine := .running
    holds := [(0x0110, .context 0), (0x0200, .context 0)]
    poolFree := 253
    running := some ⟨⟨410, .commit 0, .link1, 6, 1⟩, 0x31A, [⟨7, 90⟩, ⟨7, 93⟩], some ⟨markImage 0x31A, none, 0⟩, none, 0⟩
    sectors := (((Vector.replicate 32 ⟨.erased, 1, 0, 0, 0⟩).set 7 ⟨.opened 1 96, 1, 89, 6, 0⟩).set 4 ⟨.full 2, 1, 9, 0, 246⟩)
    ops := [.image .host ⟨7, 95⟩ 0 (markImage 0x31A).headerLine (markImage 0x31A).headerLine] } : State).setContext 0
      (.committing .link1 5000 [⟨0x0110, .value (List.replicate 32 1), none⟩, ⟨0x0200, .value (List.replicate 16 2), some 0x310⟩] 410)).setLink
        .link0 { Framer.reset with watches := [0x0200, 0x0110], sequence := 7 }

/-- Section 1.6: the directory after the switch, the lines of sectors 7 and 4, and what was reserved; the superseded TAGGED value leaves
the mark of its generation without dependents, and its line becomes stale too (R82). -/
theorem test_commit_switch :
    (next committing (.lineProgramDone .asExpected)).directory
        = [⟨0x0100, .live, ⟨3, 40⟩, 20, 0x301, .solo⟩, ⟨0x0110, .live, ⟨7, 90⟩, 32, 0x31A, .tagged⟩,
          ⟨0x0120, .deleted, ⟨5, 12⟩, 0, 0x305, .solo⟩, ⟨0x0200, .live, ⟨7, 93⟩, 16, 0x31A, .tagged⟩]
      ∧ (next committing (.lineProgramDone .asExpected)).sectors[7] = ⟨.opened 1 96, 1, 95, 0, 0⟩
      ∧ (next committing (.lineProgramDone .asExpected)).sectors[4] = ⟨.full 2, 1, 0, 0, 255⟩
      ∧ (next committing (.lineProgramDone .asExpected)).marks = [⟨0x31A, ⟨7, 95⟩, 2⟩]
      ∧ (next committing (.lineProgramDone .asExpected)).poolFree = 256 := by
  decide +kernel

/-- Section 11.6, row 1: Link 0 is told of its watched keys in list order with TAGs that run on; Link 1 gets JOB_DONE. -/
theorem test_switch_notices :
    (next committing (.lineProgramDone .asExpected)).lf0.out
        = [⟨7, 0x62, [0, 0x01, 0x10, 0, 0, 3, 0x1A, 0]⟩, ⟨8, 0x62, [0, 0x02, 0x00, 0, 0, 3, 0x1A, 0]⟩]
      ∧ (next committing (.lineProgramDone .asExpected)).lf1.out = [⟨0, 0x61, [0, 1, 0x9A, 1, 0, 0, 0, 3, 0x1A]⟩] := by
  decide +kernel

/-- The candidates of the example of section 6.4, with the MARK of 0x00000610 at 1 / 1. -/
def candidates : List Candidate :=
  [⟨⟨1, 1⟩, .mark, 0xFFFF, 0, 0x610, .solo, 1399, false⟩, ⟨⟨22, 30⟩, .value, 0x0240, 24, 0x610, .tagged, 1401, true⟩,
    ⟨⟨25, 111⟩, .value, 0x0240, 24, 0x610, .solo, 1407, false⟩, ⟨⟨28, 5⟩, .value, 0x0240, 24, 0x610, .solo, 1409, false⟩,
    ⟨⟨28, 60⟩, .value, 0x0240, 40, 0x622, .tagged, 1409, false⟩]

/-- Section 6.4: the entry for 0x0240 is LIVE at 28 / 5, SOLO, 24 bytes, generation 0x00000610, and no mark entry stays. -/
theorem test_resolve_one_key :
    (winnersOf candidates).map Candidate.entry = [⟨0x0240, .live, ⟨28, 5⟩, 24, 0x610, .solo⟩]
      ∧ rebuildMarks candidates ((winnersOf candidates).map Candidate.entry) = [] := by
  decide +kernel

/-- The job of the example of section 4.7 while its second image line is programmed. -/
def laddering : State :=
  { ready with
    engine := .running
    running := some ⟨⟨70, .soloWrite 0x0200 (List.replicate 32 5), .link0, 3, 0⟩, 0x800, [],
      some ⟨⟨.value, .solo, 0x0200, 0x800, List.replicate 32 5⟩, none, 0⟩, none, 0⟩
    sectors := (Vector.replicate 32 ⟨.erased, 1, 0, 0, 0⟩).set 6 ⟨.opened 1 203, 1, 199, 3, 0⟩
    ops := [.image .host ⟨6, 200⟩ 1 0 0] }

/-- Section 4.7, row 1: the payload line 201 fails, 3 lines are stale, and the retry starts at 6 / 203. -/
theorem test_first_failure :
    (next laddering (.lineProgramDone (.reads 1))).sectors[6] = ⟨.opened 1 206, 1, 199, 3, 3⟩
      ∧ (next laddering (.lineProgramDone (.reads 1))).ops.map (fun o => match o with
          | .image .host start n _ _ => (start.sector.val, start.line, n)
          | _ => (0, 0, 0)) = [(6, 203, 0)]
      ∧ ((next laddering (.lineProgramDone (.reads 1))).writing .host).map (·.failures) = some 1 := by
  decide +kernel

/-! ### Witnesses: for each statement with hypotheses, a state and operands that meet them together -/

/-- A request of a link on one of the states above is the one the executor takes next. -/
theorem asking_serves (s : State) (l : Link) (r : Request) (held : s.held = false) (other : (s.link (otherLink l)).fifo = []) :
    (asking s l r).serving l r := by
  cases l <;> exact ⟨held, rfl, .inl other⟩

theorem witness_StepRunsFrontCommand : ({ ready with pending := [.jobStart, .list] } : State).pending = .jobStart :: [.list] :=
  rfl

theorem witness_IdleStepCountsTimers : due.pending = [] ∧ due.held = false ∧ due.pausePoint = none ∧ due.context 1 = .opened .link1 5000 5000 staged12
    ∧ due.context 0 = .opened .link0 5000 7 [] ∧ withContexts.context 1 = .opened .link1 5000 9 staged12
    ∧ (∀ h : Handle, (withContexts.context h).due = false) := by
  decide +kernel

/-- A state with waiting commands, a full link, staged entries and holds meets every invariant, and its step answers a next state. -/
def invariantState : State :=
  { (withContexts.setLink .link0 { Framer.reset with out := List.replicate 16 ⟨0, 0x64, [0, 1]⟩, backlog := [.supply .low] }) with
    pending := [.frameSent (.spi (List.replicate 9 0))] }

theorem witness_StepKeepsLinkSlots : invariantState.slotsHold ∧ ∃ t, step invariantState = .next t := by
  refine ⟨?_, _, rfl⟩
  unfold State.slotsHold Framer.slotsHold
  decide +kernel

theorem witness_StepKeepsAttn : invariantState.attnAgrees ∧ ∃ t, step invariantState = .next t := by
  refine ⟨?_, _, rfl⟩
  unfold State.attnAgrees
  decide +kernel

theorem witness_StepKeepsDirectoryOrder :
    ({ committing with pending := [.lineProgramDone .asExpected] } : State).directoryOrdered
      ∧ ∃ t, step { committing with pending := [.lineProgramDone .asExpected] } = .next t := by
  refine ⟨?_, _, rfl⟩
  unfold State.directoryOrdered
  decide +kernel

theorem witness_StepKeepsSingleHolders : invariantState.holdsSingle ∧ ∃ t, step invariantState = .next t := by
  refine ⟨?_, _, rfl⟩
  unfold State.holdsSingle
  decide +kernel

theorem witness_StepKeepsStagedLists : invariantState.listsHold ∧ ∃ t, step invariantState = .next t := by
  refine ⟨?_, _, rfl⟩
  unfold State.listsHold Context.listHolds
  decide +kernel

/-- A commit that folds the mark of generation 0x310, while it copies key 0x0200. -/
def folding : State :=
  { committing with
    engine := .folding
    running := some ⟨⟨410, .commit 0, .link1, 6, 1⟩, 0x31A, [], some ⟨⟨.value, .solo, 0x0200, 0x310, [1]⟩, some ⟨4, 200⟩, 0⟩, some ⟨0x310, 0⟩, 0⟩
    ops := [.image .host ⟨7, 94⟩ 1 0 0]
    pending := [.lineProgramDone .asExpected] }

theorem witness_StepKeepsFoldsInCommits : folding.foldsInCommits ∧ (folding.running.bind (·.fold)) = some ⟨0x310, 0⟩
    ∧ ∃ t, step folding = .next t :=
  ⟨fun _ e _ => ⟨0, by cases e; rfl⟩, rfl, _, rfl⟩

/-- A state with a byte in the array and an image line being programmed. -/
def programming : State :=
  { laddering with array := { CellArray.erased with cells := [⟨0, 0x55⟩] }, pending := [.lineProgramDone .asExpected] }

theorem witness_StepKeepsArrayCanonical : programming.arrayCanonical ∧ ∃ t, step programming = .next t := by
  refine ⟨?_, _, rfl⟩
  unfold State.arrayCanonical
  decide +kernel

/-- A part held in reset, whose Link 0 has a window of two bytes waiting. -/
def heldState : State :=
  { State.reset with pending := [.csRise [0xA5, 0] []] }

theorem witness_StepKeepsResetValuesWhileHeld : heldState.heldAtRest ∧ heldState.held = true ∧ ∃ t, step heldState = .next t :=
  ⟨fun _ => rfl, rfl, _, rfl⟩

/-- While reset is held the window shifts out the fill byte and receives nothing (R143, R164). -/
theorem test_window_while_held :
    next State.reset (.csRise [0xA5, 0] []) = { State.reset with lf0 := { Framer.reset with wire := [0xFF, 0xFF] } } := by
  decide +kernel

theorem witness_ArrayChangesOnlyAtItsOperations : touchesArray .jobStart = false ∧ ∃ t, exec .jobStart ready = .next t :=
  ⟨rfl, _, rfl⟩

theorem witness_ZonesChangeOnlyAtTheirEvents : zoned.foldsInCommits ∧ touchesZones .supplyLow = false
    ∧ ∃ t, exec .supplyLow zoned = .next t :=
  ⟨(fun _ e => nomatch e), rfl, _, rfl⟩

/-- A DELETE of key 0, which step 1 refuses. -/
def deleting : State :=
  asking withContexts .link0 ⟨9, 0x13, [0, 0]⟩

theorem witness_RefusedRequestHasNoEffect :
    isRequest (.delete .asserted) = true ∧ deleting.serving .link0 ⟨9, 0x13, [0, 0]⟩
      ∧ exec (.delete .asserted) deleting = .next (next deleting (.delete .asserted)) ∧ next deleting (.delete .asserted) ≠ deleting
      ∧ ((next deleting (.delete .asserted)).link .link0).out.getLast? = some ⟨9, replyType 0x13, [0x12]⟩
      ∧ 0x10 ≤ (0x12 : Byte).toNat := by
  refine ⟨rfl, asking_serves _ _ _ rfl rfl, rfl, ?_⟩
  decide +kernel

theorem witness_CommittedViewIgnoresStaging : ∃ t, exec .readCommitted (asking withKey .link1 ⟨9, 0x10, [0x05, 0x20, 0]⟩) = .next t :=
  ⟨_, rfl⟩

/-- Both links have received the first n bytes of a frame. -/
def gathering (f : Frame) (n : Nat) : State :=
  (ready.setLink .link0 { Framer.reset with rx := f.gathered n }).setLink .link1 { Framer.reset with rx := f.gathered n }

theorem witness_GoodFrameAcceptance : (gathering ⟨1, 2, [3]⟩ 7).held = false ∧ (List.replicate 272 (0 : Byte)).length ≤ 272
    ∧ 7 < ([3] : List Byte).length + 7 ∧ ((gathering ⟨1, 2, [3]⟩ 7).link .link1).rx = (Frame.mk 1 2 [3]).gathered 7
    ∧ (gathering ⟨1, 2, [3]⟩ 0).lf0.rx = .hunt ∧ (∀ b ∈ ([0, 0x5A] : List Byte), b ≠ 0xA5) ∧ ((7 : Nat) ≠ 0 → ([] : List Byte) = [])
    ∧ (Port.traffic .spi ([0, 0x5A] ++ (Frame.mk 1 2 [3]).bytes.dropLast ++ [(Frame.mk 1 2 [3]).bytes.getLastD 0])).rx
      = [0, 0x5A] ++ (Frame.mk 1 2 [3]).bytes.drop 0
    ∧ (Port.traffic (.uart 5) ([] ++ [(Frame.mk 1 2 [3]).bytes.getLastD 0])).rx = [] ++ (Frame.mk 1 2 [3]).bytes.drop 7 := by
  decide +kernel

theorem witness_BadFramesCounted : (gathering ⟨1, 2, [3, 4]⟩ 7).held = false
    ∧ (gathering ⟨1, 2, [3, 4]⟩ 7).lf1.rx = (Frame.mk 1 2 [3, 4]).gathered 7 ∧ 7 < ([3, 4] : List Byte).length + 6
    ∧ be16 (crc16 (be16Nat 0 ++ [1, 2])) ≠ [0, 0] ∧ be16 (crc16 (be16Nat 2 ++ [1, 2] ++ [3, 4])) ≠ [0, 0]
    ∧ (gathering ⟨1, 2, []⟩ 0).lf0.rx = .hunt ∧ (∀ b ∈ ([0, 0x5A] : List Byte), b ≠ 0xA5)
    ∧ 272 < 256 * (0x01 : Byte).toNat + (0x11 : Byte).toNat
    ∧ (ready.setLink .link1 { Framer.reset with rx := .header [0x01] }).lf1.rx = .header ([(0x01 : Byte)].take (2 - 1)) := by
  decide +kernel

theorem witness_CutsDiscardPartialFrames : (gathering ⟨1, 2, []⟩ 6).held = false ∧ ([] : List Byte).length ≤ 272
    ∧ 6 < ([] : List Byte).length + 7 ∧ (gathering ⟨1, 2, []⟩ 6).lf0.rx = (Frame.mk 1 2 []).gathered 6
    ∧ (gathering ⟨1, 2, []⟩ 3).lf1.rx = (Frame.mk 1 2 []).gathered 3 ∧ ready.lf0.rx = (Frame.mk 1 2 []).gathered 0
    ∧ (∀ b ∈ ([0, 0x5A] : List Byte), b ≠ 0xA5) := by
  decide +kernel

theorem witness_FramesGoOutByteByByte :
    (crowded.held = false ∧ crowded.lf0.rx = .hunt ∧ (crowded.link .link0).backlog = [] ∧ (∀ b ∈ ([0, 0x5A] : List Byte), b ≠ 0xA5)
      ∧ (crowded.link .link0).out = ⟨0x3D, 0x83, List.replicate 256 0⟩ :: List.replicate 10 ⟨0x3E, 0x91, []⟩
      ∧ (crowded.link .link0).sent + 262 < (Frame.mk 0x3D 0x83 (List.replicate 256 0)).bytes.length
      ∧ (crowded.link .link0).sent + 263 = (Frame.mk 0x3D 0x83 (List.replicate 256 0)).bytes.length)
    ∧ (invariantState.link .link0).out = ⟨0, 0x64, [0, 1]⟩ :: List.replicate 15 ⟨0, 0x64, [0, 1]⟩
    ∧ (invariantState.link .link0).backlog = [.supply .low] ∧ (invariantState.link .link0).sent + 9 = (Frame.mk 0 0x64 [0, 1]).bytes.length
    ∧ (invariantState.link .link0).out.length + (invariantState.link .link0).reservations = 16
    ∧ (ready.link .link1).out = [] := by
  decide +kernel

/-- A part with a program, a header program or an erase in progress, for the clauses of RESET. -/
def cutting (o : ArrayOp) : State :=
  { programming with ops := [o] }

theorem witness_ResetCutsOffTheOperation :
    (cutting (.image .host ⟨0, 255⟩ 0 5 5)).arrayCanonical ∧ (cutting (.header 31 .retired 0 0)).arrayCanonical
      ∧ (cutting (.erase 0 .format)).arrayCanonical ∧ programming.arrayCanonical
      ∧ (∃ t, exec (.reset 7 ⟨0, [(255, 3)]⟩) (cutting (.image .host ⟨0, 255⟩ 0 5 5)) = .next t)
      ∧ (∃ t, exec (.reset 7 ⟨0, [(255, 3)]⟩) (cutting (.header 31 .retired 0 0)) = .next t)
      ∧ (∃ t, exec (.reset 7 ⟨0, [(255, 3)]⟩) (cutting (.erase 0 .format)) = .next t)
      ∧ (∃ t, exec (.reset 7 ⟨0, []⟩) ready = .next t) ∧ ready.ops = [] := by
  refine ⟨?_, ?_, ?_, ?_, ⟨_, rfl⟩, ⟨_, rfl⟩, ⟨_, rfl⟩, ⟨_, rfl⟩, rfl⟩ <;>
    (unfold State.arrayCanonical; decide +kernel)

theorem witness_MountOfABlankArray : State.reset.held = true
    ∧ ∀ x : Sector, ∀ p, readPrepared State.reset.array.headers[x] ≠ .valid p := by
  have h : ∀ x : Sector, readPrepared State.reset.array.headers[x] = .absent := by decide +kernel
  refine ⟨rfl, fun x p e => ?_⟩
  rw [h x] at e
  cases e

/-- A formatted array, read by a part held in reset: sector 0 is OPEN and holds the value [7, 8] of key 0x0200, sector 1 is retired, 2 blank,
3 has a torn open sequence, and the others are ERASED. -/
def image0200 : Image :=
  ⟨.value, .solo, 0x0200, 0x10, [7, 8]⟩

@[inherit_doc image0200]
def formatted : State :=
  { State.reset with
    array := ({ CellArray.erased with
      headers := ((((Vector.replicate 32 (preparedPattern 1 6)).set 0 (preparedPattern 1 9 &&& openSequencePattern 5)).set 1 0).set 2
        (BitVec.allOnes 176)).set 3 (preparedPattern 1 6 &&& openSequencePattern 5 &&& openSequencePattern 2) }.writeLine ⟨0, 1⟩
          (image0200.line 0)).writeLine ⟨0, 2⟩ (image0200.line 1) }

/-- The header line of that image, as the scan reads it. -/
def header0200 : ImageHeader :=
  ⟨.value, .solo, 0x0200, 2, 0x10, crc16 [7, 8]⟩

theorem witness_MountFindsTheStore :
    formatted.held = true ∧ formatted.pass = none
      ∧ (∃ (x : Sector) (count : Word32), readPrepared formatted.array.headers[x] = .valid (1, count))
      ∧ (∀ (x : Sector) (e count : Word32), readPrepared formatted.array.headers[x] = .valid (e, count) → e.toNat ≤ (1 : Word32).toNat)
      ∧ (∀ x : Sector, formatted.array.scanned 1 x → victimMarkSet formatted.array.headers[x] = false)
      ∧ formatted.array.headers[(1 : Sector)] = 0 ∧ readPrepared formatted.array.headers[(2 : Sector)] = .absent
      ∧ readOpenSequence formatted.array.headers[(31 : Sector)] = .absent
      ∧ readOpenSequence formatted.array.headers[(0 : Sector)] = .valid 5
      ∧ readOpenSequence formatted.array.headers[(3 : Sector)] = .torn
      ∧ formatted.array.stands 1 ⟨0, 1⟩ header0200 := by
  have epochs : ∀ x : Sector, (match readPrepared formatted.array.headers[x] with
      | .valid p => decide (p.1 = 1)
      | _ => true) = true := by decide +kernel
  have marks : ∀ x : Sector, readPrepared formatted.array.headers[x] = .torn ∨ victimMarkSet formatted.array.headers[x] = false := by
    decide +kernel
  refine ⟨rfl, rfl, ⟨31, 6, by decide +kernel⟩, fun x e count h => ?_, fun x scanned => ?_, by decide +kernel, by decide +kernel,
    by decide +kernel, by decide +kernel, by decide +kernel, ⟨⟨⟨⟨9, by decide +kernel⟩, 5, by decide +kernel⟩, .first, by decide,
      by decide +kernel⟩, by decide +kernel, by decide, .inl rfl⟩⟩
  · have same := epochs x
    rw [h] at same
    exact Nat.le_of_eq (congrArg BitVec.toNat (of_decide_eq_true same))
  · obtain ⟨⟨count, valid⟩, -⟩ := scanned
    refine (marks x).resolve_left fun torn => ?_
    rw [torn] at valid
    cases valid

/-- Mount finds the key, the counters follow what the array holds, and the sectors are as R113 to R122 class them. -/
theorem test_mount_finds_the_store :
    (next formatted (.resetRelease .low .baud115200)).directory = [⟨0x0200, .live, ⟨0, 1⟩, 2, 0x10, .solo⟩]
      ∧ (next formatted (.resetRelease .low .baud115200)).generationNext = 0x11
      ∧ (next formatted (.resetRelease .low .baud115200)).openSequenceNext = 6
      ∧ (next formatted (.resetRelease .low .baud115200)).sectors[(0 : Sector)] = ⟨.opened 5 3, 9, 2, 0, 0⟩
      ∧ (next formatted (.resetRelease .low .baud115200)).engine = .paused := by
  decide +kernel

/-- Mount's sweep has the prepared block of sector 2 programmed; sectors are still to be erased and closed as given. -/
def sweeping (m : MountRecord) (supply : Supply) : State :=
  { ready with
    store := .mounting
    engine := .mounting
    supply := supply
    mount := some m
    ops := [.header 2 (.preparedBlock .sweep 9) 0 (preparedPattern 1 9)] }

/-- A mount record in SWEEP. -/
def sweepRecord : MountRecord :=
  { MountRecord.reset with phase := .sweep }

theorem witness_SweepGoesOnAndEnds (m : MountRecord) (supply : Supply) (h : m.phase = .sweep) :
    (sweeping m supply).held = false ∧ (sweeping m supply).store = .mounting
      ∧ (sweeping m supply).ops = [.header 2 (.preparedBlock .sweep 9) 0 (preparedPattern 1 9)] ∧ (sweeping m supply).mount = some m
      ∧ m.phase = .sweep ∧ (sweeping m supply).queue = [] ∧ (sweeping m supply).pass = none ∧ (sweeping m supply).running = none
      ∧ (sweeping m supply).reservedLines = 0 ∧ (sweeping m supply).supply = supply :=
  ⟨rfl, rfl, rfl, rfl, h, rfl, rfl, rfl, rfl, rfl⟩

/-- With nothing left the sweep ends mount in READY, and in READ_ONLY with the cause mount met; in LOW a sector still to erase waits. -/
theorem test_sweep_ends :
    sweepRecord.phase = .sweep ∧ (next (sweeping sweepRecord .normal) (.lineProgramDone .asExpected)).store = .ready
      ∧ (next (sweeping { sweepRecord with cause := some .directory } .normal) (.lineProgramDone .asExpected)).store = .readOnly .directory
      ∧ (next (sweeping { sweepRecord with eraseList := [31] } .low) (.lineProgramDone .asExpected)).engine = .paused
      ∧ (next (sweeping { sweepRecord with eraseList := [31] } .normal) (.lineProgramDone .asExpected)).ops = [.erase 31 .sweep] := by
  decide +kernel

theorem witness_SupplyChangesAnnounced :
    (ready.held = false ∧ ready.supply = .normal ∧ (∀ cause, ready.store = .readOnly cause → ∀ j ∈ ready.queue, j.work = .format)
      ∧ ({ ready with supply := .low } : State).supply = .low)
    ∧ (∀ cause, ({ ready with supply := .low, engine := .paused, store := .readOnly .media } : State).store = .readOnly cause →
      ∀ j ∈ ({ ready with supply := .low, engine := .paused, store := .readOnly .media } : State).queue, j.work = .format)
    ∧ ({ ready with supply := .low, engine := .paused, store := .readOnly .media } : State).mount = none
    ∧ ({ ready with supply := .low, engine := .paused, store := .readOnly .media } : State).store ≠ .mounting
    ∧ ready.running = none :=
  ⟨⟨rfl, rfl, (fun _ e => nomatch e), rfl⟩, (fun _ _ _ m => nomatch m), rfl, (fun e => nomatch e), rfl⟩

theorem witness_ExpiryFreesTheContext : due.held = false ∧ due.context 1 = .opened .link1 5000 5000 staged12 ∧ 5000 ≤ 5000
    ∧ (due.setContext 1 (.opened .link1 5000 4999 [])).context 1 = .opened .link1 5000 4999 [] ∧ due.context 3 = .free := by
  decide +kernel

/-- The readback of a failed erase that shows a valid prepared block is no event of the part: nothing changes (R50). -/
theorem test_erase_leaves_no_prepared_block :
    next { ready with ops := [.erase 3 .reclaim] } (.sectorEraseDone (.reads ⟨preparedPattern 1 1, []⟩)) = { ready with ops := [.erase 3 .reclaim] }
      ∧ (next { ready with ops := [.erase 3 .reclaim] } (.sectorEraseDone (.reads ⟨0, []⟩))).sectors[(3 : Sector)].state = .retired := by
  decide +kernel

theorem witness_ErasePassPreparesTheSector : ({ ready with ops := [.erase 31 .sweep] } : State).held = false
    ∧ ({ ready with ops := [.erase 31 .sweep] } : State).ops = .erase 31 .sweep :: []
    ∧ ({ ready with ops := [.erase 0 .reclaim, .header 3 .retired 0 0] } : State).ops = .erase 0 .reclaim :: [.header 3 .retired 0 0]
    ∧ ({ ready with ops := [.erase 5 .format] } : State).ops = .erase 5 .format :: [] :=
  ⟨rfl, rfl, rfl, rfl⟩

/-- A FORMAT that has come to sector 3, with sectors 4 and 5 retired. -/
def formatJob : Running :=
  ⟨⟨9, .format, .link1, 0, 0⟩, 0, [], none, none, 4⟩

@[inherit_doc formatJob]
def formatting (o : ArrayOp) : State :=
  { ready with
    store := .formatting
    engine := .running
    running := some formatJob
    sectors := ((Vector.replicate 32 ⟨.unprepared, 1, 0, 0, 0⟩).set 4 ⟨.retired, 1, 0, 0, 0⟩).set 5 ⟨.retired, 1, 0, 0, 0⟩
    ops := [o] }

theorem witness_FormatGoesSectorBySector (o : ArrayOp) :
    (formatting o).held = false ∧ (formatting o).running = some formatJob ∧ (formatting o).store = .formatting
      ∧ (formatting o).supply = .normal ∧ (formatting o).engine = .running ∧ (formatting o).ops = [o]
      ∧ (3 : Sector).val < formatJob.formatNext ∧ formatJob.formatNext ≤ (6 : Sector).val
      ∧ (formatting o).sectors[(6 : Sector)].nonRetired = true
      ∧ (∀ z : Sector, formatJob.formatNext ≤ z.val → z.val < (6 : Sector).val → (formatting o).sectors[z].nonRetired = false)
      ∧ (0 : HeaderLine) ≠ BitVec.allOnes 176 ∧ ∀ p, readPrepared 0 ≠ .valid p := by
  have sectors : (formatting o).sectors = (formatting (.erase 3 .format)).sectors := rfl
  refine ⟨rfl, rfl, rfl, rfl, rfl, rfl, by decide, by decide, ?_, ?_, by decide +kernel, fun p e => ?_⟩
  · rw [sectors]
    decide +kernel
  · rw [sectors]
    decide +kernel
  · rw [show readPrepared 0 = .torn by decide +kernel] at e
    cases e

/-- The same FORMAT at its last sector. -/
def formatLast (o : ArrayOp) : State :=
  { formatting o with running := some { formatJob with formatNext := 32 } }

theorem witness_FormatEnds (o : ArrayOp) :
    (formatLast o).held = false ∧ (formatLast o).ops = [o] ∧ (formatLast o).running = some { formatJob with formatNext := 32 }
      ∧ formatJob.job.work = .format ∧ formatJob.generation = 0 ∧ (formatLast o).store = .formatting ∧ (formatLast o).queue = []
      ∧ (31 : Sector).val < 32 ∧ (∀ z : Sector, 32 ≤ z.val → (formatLast o).sectors[z].nonRetired = false)
      ∧ (0 : HeaderLine) ≠ BitVec.allOnes 176 ∧ ∀ p, readPrepared 0 ≠ .valid p :=
  ⟨rfl, rfl, rfl, rfl, rfl, rfl, rfl, by decide, fun z h => absurd z.isLt (by omega), by decide +kernel,
    (witness_FormatGoesSectorBySector o).2.2.2.2.2.2.2.2.2.2.2⟩

/-- The last sector's erase fails: it is RETIRED, the store is READY, and JOB_DONE goes to the origin (R64, R81). -/
theorem test_format_ends_on_a_retirement :
    (next (formatLast (.erase 31 .format)) (.sectorEraseDone (.reads ⟨0, []⟩))).store = .ready
      ∧ (next (formatLast (.erase 31 .format)) (.sectorEraseDone (.reads ⟨0, []⟩))).sectors[(31 : Sector)].state = .retired
      ∧ (last (next (formatLast (.erase 31 .format)) (.sectorEraseDone (.reads ⟨0, []⟩))) .link1).map (·.typ) = some 0x61 := by
  decide +kernel

/-- A SOLO_WRITE whose header line is being programmed. -/
def heading : State :=
  { laddering with ops := [.image .host ⟨6, 200⟩ 0 0 0] }

/-- The job of section 4.7 with some failures counted, the OPEN sector's cursor at a line, and an operation in progress. -/
def rung (failures cursor : Nat) (o : ArrayOp) : State :=
  { laddering with
    running := laddering.running.map (fun r => { r with writing := r.writing.map (fun x => { x with failures := failures }) })
    sectors := laddering.sectors.set (6 : Sector) ⟨.opened 1 cursor, 1, 199, 3, 0⟩
    ops := [o] }

/-- The image of that job. -/
def image32 : Image :=
  ⟨.value, .solo, 0x0200, 0x800, List.replicate 32 5⟩

theorem witness_FailedImagesClimbTheLadder :
    (heading.held = false ∧ heading.engine ≠ .idle ∧ heading.writing .host = some ⟨image32, none, 0⟩ ∧ heading.store = .ready
      ∧ heading.ops = [.image .host ⟨6, 200⟩ 0 0 0] ∧ heading.array.readLine ⟨6, 200⟩ &&& (1 : HeaderLine).setWidth 128 ≠ 0)
    ∧ ((rung 0 253 (.image .host ⟨6, 200⟩ 1 0 0)).openSector = some (6, 1, 253) ∧ image32.lines ≤ 256 - 253
      ∧ (rung 0 253 (.image .host ⟨6, 200⟩ 1 0 0)).ops = [.image .host ⟨6, 200⟩ 1 0 0]
      ∧ (rung 0 253 (.image .host ⟨6, 200⟩ 1 0 0)).array.readLine ⟨6, 201⟩ &&& (1 : HeaderLine).setWidth 128 ≠ 0)
    ∧ ((rung 0 254 (.image .host ⟨6, 200⟩ 1 0 0)).openSector = some (6, 1, 254) ∧ 256 - 254 < image32.lines)
    ∧ ((rung 1 203 (.image .host ⟨6, 200⟩ 2 0 0)).writing .host = some ⟨image32, none, 1⟩
      ∧ (rung 1 203 (.image .host ⟨6, 200⟩ 2 0 0)).openSector = some (6, 1, 203))
    ∧ ((rung 2 203 (.header 6 (.closeFailed .host) 0 0)).writing .host = some ⟨image32, none, 2⟩
      ∧ (rung 2 203 (.header 6 (.close .host) 0 0)).ops = [.header 6 (.close .host) 0 0]
      ∧ (rung 2 203 (.header 6 (.closeFailed .host) 0 0)).sectors[(6 : Sector)].state = .opened 1 203
      ∧ (∀ z : Sector, z ≠ 6 → (laddering.sectors[z]).state = .erased)
      ∧ (∀ y : Sector, y ≠ 0 → laddering.sectors[y].state = .erased →
          laddering.sectors[(0 : Sector)].eraseCount = laddering.sectors[y].eraseCount ∧ 0 < y))
    ∧ ((rung 2 203 (.header 6 (.openSequence .host 9) 0 0)).ops = [.header 6 (.openSequence .host 9) 0 0] ∧ image32.lines ≤ 255) := by
  decide +kernel

/-- Section 4.7 up to its third failure: job 70 retries at 12 / 1, and jobs 71 and 72 wait. -/
def thirdRetry : State :=
  ({ ready with
    engine := .running
    reservedLines := 9
    poolFree := 252
    nextTicket := 73
    generationNext := 0x801
    holds := [(0x0200, .job 70), (0x0210, .job 71), (0x0220, .context 0), (0x0230, .context 0)]
    queue := [⟨71, .soloDelete 0x0210, .link1, 1, 0⟩, ⟨72, .commit 0, .link0, 5, 0⟩]
    running := some ⟨⟨70, .soloWrite 0x0200 (List.replicate 32 5), .link0, 3, 0⟩, 0x800, [], some ⟨image32, none, 2⟩, none, 0⟩
    sectors := ((Vector.replicate 32 ⟨.erased, 1, 0, 0, 0⟩).set 6 ⟨.full 1, 1, 199, 0, 56⟩).set 12 ⟨.opened 2 4, 1, 0, 3, 0⟩
    ops := [.image .host ⟨12, 1⟩ 1 0 0] } : State).setContext 0
      (.committing .link0 5000 [⟨0x0220, .value (List.replicate 16 1), none⟩, ⟨0x0230, .value (List.replicate 16 2), none⟩] 72)

/-- A copy of a pass, and one of mount's sweep, at their third failure; the header line failed and the FULL mark is being programmed. -/
def thirdCopy (store : Store) (mount : Option MountRecord) : State :=
  { ready with
    store := store
    mount := mount
    engine := .reclaiming .background
    pass := some ⟨.copying 40, 9, .background, true, some ⟨⟨.value, .solo, 0x0500, 0x300, List.replicate 20 1⟩, some ⟨9, 40⟩, 3⟩⟩
    sectors := ((Vector.replicate 32 ⟨.erased, 1, 0, 0, 0⟩).set 9 ⟨.victim 2, 1, 5, 0, 250⟩).set 17 ⟨.opened 3 123, 1, 100, 0, 22⟩
    ops := [.header 17 (.closeFailed .reclaim) fullPattern fullPattern] }

theorem witness_ThirdFailureStopsTheStore :
    (thirdRetry.held = false ∧ thirdRetry.store = .ready ∧ thirdRetry.ops = [.image .host ⟨12, 1⟩ 1 0 0]
      ∧ thirdRetry.writing .host = some ⟨image32, none, 2⟩ ∧ thirdRetry.array.readLine ⟨12, 2⟩ &&& (1 : HeaderLine).setWidth 128 ≠ 0)
    ∧ ((thirdCopy .ready none).held = false ∧ (thirdCopy .ready none).store = .ready ∧ (thirdCopy .ready none).mount = none
      ∧ (thirdCopy .ready none).ops = [.header 17 (.closeFailed .reclaim) fullPattern fullPattern]
      ∧ (thirdCopy .ready none).sectors[(17 : Sector)].state = .opened 3 123
      ∧ ((thirdCopy .ready none).writing .reclaim).map (·.failures) = some 3)
    ∧ ((thirdCopy .mounting (some sweepRecord)).store = .mounting ∧ (thirdCopy .mounting (some sweepRecord)).mount = some sweepRecord
      ∧ (thirdCopy .mounting (some sweepRecord)).queue = []) := by
  decide +kernel

/-- Section 4.7, row 4: what the event of the third failure leaves, and the notices of each link in order. -/
theorem test_third_failure :
    (next thirdRetry (.lineProgramDone (.reads 1))).store = .readOnly .media
      ∧ (next thirdRetry (.lineProgramDone (.reads 1))).reservedLines = 0 ∧ (next thirdRetry (.lineProgramDone (.reads 1))).holds = []
      ∧ (next thirdRetry (.lineProgramDone (.reads 1))).poolFree = 256
      ∧ (next thirdRetry (.lineProgramDone (.reads 1))).context 0 = .free
      ∧ (next thirdRetry (.lineProgramDone (.reads 1))).sectors[(12 : Sector)] = ⟨.opened 2 4, 1, 0, 0, 3⟩
      ∧ (next thirdRetry (.lineProgramDone (.reads 1))).lf0.out
        = [⟨0, 0x65, [0, 3, 1]⟩, ⟨1, 0x61, [0, 0, 70, 2, 0x70, 0, 0, 0, 0]⟩, ⟨2, 0x61, [0, 0, 72, 1, 0x71, 0, 0, 0, 0]⟩]
      ∧ (next thirdRetry (.lineProgramDone (.reads 1))).lf1.out = [⟨0, 0x65, [0, 3, 1]⟩, ⟨1, 0x61, [0, 0, 71, 3, 0x71, 0, 0, 0, 0]⟩] := by
  decide +kernel

/-- The same job while its last line is programmed. -/
def lastLine : State :=
  { laddering with ops := [.image .host ⟨6, 200⟩ 2 0 0] }

theorem witness_SoloWriteSwitches :
    lastLine.held = false ∧ lastLine.store = .ready ∧ lastLine.ops = [.image .host ⟨6, 200⟩ 2 0 0]
      ∧ lastLine.running = some ⟨⟨70, .soloWrite 0x0200 (List.replicate 32 5), .link0, 3, 0⟩, 0x800, [],
          some ⟨⟨.value, .solo, 0x0200, 0x800, List.replicate 32 5⟩, none, 0⟩, none, 0⟩
      ∧ 2 = ((List.replicate 32 (5 : Byte)).length + 15) / 16 ∧ (0x800 : Gen).toNat + 1 < 0xFFFFFF00
      ∧ (0xFFFFFEFE : Gen).toNat + 1 < 0xFFFFFF00 ∧ lastLine.lookup 0x0200 = none
      ∧ ({ lastLine with directory := [⟨0x0200, .live, ⟨6, 3⟩, 5, 0x20, .solo⟩] } : State).lookup 0x0200
        = some ⟨0x0200, .live, ⟨6, 3⟩, 5, 0x20, .solo⟩ := by
  decide +kernel

/-- The running commit of `committing`, for the switch. -/
def committingJob : Running :=
  ⟨⟨410, .commit 0, .link1, 6, 1⟩, 0x31A, [⟨7, 90⟩, ⟨7, 93⟩], some ⟨markImage 0x31A, none, 0⟩, none, 0⟩

theorem witness_CommitSwitches :
    committing.held = false ∧ committing.store = .ready
      ∧ committing.ops = [.image .host ⟨7, 95⟩ 0 (markImage 0x31A).headerLine (markImage 0x31A).headerLine]
      ∧ committing.running = some committingJob ∧ committingJob.job.work = .commit 0
      ∧ committing.context 0 = .committing .link1 5000
          [⟨0x0110, .value (List.replicate 32 1), none⟩, ⟨0x0200, .value (List.replicate 16 2), some 0x310⟩] 410
      ∧ [(0x0110 : Key), 0x0200].Pairwise (fun a b => a ≠ b) ∧ committingJob.placed.length = 2 ∧ committingJob.fold = none
      ∧ committingJob.writing = some ⟨⟨.mark, .solo, 0, committingJob.generation, []⟩, none, 0⟩
      ∧ committingJob.generation.toNat + 1 < 0xFFFFFF00 := by
  decide +kernel

/-- Section 12.1, row 2: the copy of 0x0500 completes while a job is queued. -/
def copying : State :=
  { ready with
    directory := [⟨0x0500, .live, ⟨9, 40⟩, 20, 0x300, .solo⟩, ⟨0x0510, .live, ⟨9, 43⟩, 16, 0x301, .solo⟩]
    queue := [⟨90, .reclaimReq, .link0, 0, 0⟩]
    engine := .reclaiming .background
    pass := some ⟨.copying 40, 9, .background, true, some ⟨⟨.value, .solo, 0x0500, 0x300, List.replicate 20 1⟩, some ⟨9, 40⟩, 0⟩⟩
    sectors := ((Vector.replicate 32 ⟨.erased, 1, 0, 0, 0⟩).set 9 ⟨.victim 2, 1, 5, 0, 250⟩).set 17 ⟨.opened 3 123, 1, 100, 3, 19⟩
    ops := [.image .reclaim ⟨17, 120⟩ 2 0 0] }

theorem witness_CopyRepointsAndYields :
    copying.held = false ∧ copying.store = .ready ∧ copying.supply = .normal ∧ copying.ops = [.image .reclaim ⟨17, 120⟩ 2 0 0]
      ∧ copying.pass = some ⟨.copying 40, 9, .background, true,
          some ⟨⟨.value, .solo, 0x0500, 0x300, List.replicate 20 1⟩, some ⟨9, 40⟩, 0⟩⟩
      ∧ copying.queue ≠ [] ∧ 2 = ((List.replicate 20 (1 : Byte)).length + 15) / 16
      ∧ copying.lookup 0x0500 = some ⟨0x0500, .live, ⟨9, 40⟩, 20, 0x300, .solo⟩ ∧ (17 : Sector) ≠ 9 := by
  decide +kernel

/-- Section 12.1, row 2: 0x0500 points at 17 / 120, the victim holds 2 live and 253 stale lines, and the pass suspends at cursor 43. -/
theorem test_copy_repoints :
    ((next copying (.lineProgramDone .asExpected)).lookup 0x0500).map (·.loc) = some ⟨17, 120⟩
      ∧ (next copying (.lineProgramDone .asExpected)).sectors[9] = ⟨.victim 2, 1, 2, 0, 253⟩
      ∧ (next copying (.lineProgramDone .asExpected)).pass = some ⟨.copying 43, 9, .background, false, none⟩
      ∧ (next copying (.lineProgramDone .asExpected)).engine = .idle := by
  decide +kernel

/-- A SOLO_WRITE at the head of the queue, and room for exactly its two lines in the OPEN sector. -/
def starting : State :=
  { ready with
    queue := [⟨7, .soloWrite 0x0200 [1, 2], .link0, 2, 1⟩]
    sectors := ready.sectors.set (0 : Sector) ⟨.opened 1 254, 1, 0, 0, 253⟩ }

theorem witness_SingleImageJobStarts :
    starting.held = false ∧ starting.engine = .idle ∧ starting.supply = .normal ∧ starting.store = .ready
      ∧ starting.queue = ⟨7, .soloWrite 0x0200 [1, 2], .link0, 2, 1⟩ :: [] ∧ starting.openSector = some (0, 1, 254)
      ∧ 1 + (([1, 2] : List Byte).length + 15) / 16 ≤ 256 - 254
      ∧ ({ ready with queue := [⟨7, .zoneUpdate zoned.zones, .link1, 5, 1⟩] } : State).openSector = some (0, 1, 1)
      ∧ 1 + ((zoneRecord zoned.zones).length + 15) / 16 ≤ 256 - 1
      ∧ ({ starting with queue := [⟨7, .soloDelete 0x0200, .link0, 1, 0⟩] } : State).queue = ⟨7, .soloDelete 0x0200, .link0, 1, 0⟩ :: [] := by
  decide +kernel

/-- A COMMIT of context 1 at the head of the queue, with a staged list, a directory and a mark table. -/
def committingNext (staged : List Staged) (directory : List DirEntry) (marks : List MarkEntry) : State :=
  ({ ready with
    queue := [⟨7, .commit 0, .link0, 4, 1⟩]
    directory := directory
    marks := marks
    sectors := ready.sectors.set (0 : Sector) ⟨.opened 1 254, 1, 0, 0, 253⟩ } : State).setContext 0 (.committing .link0 100 staged 7)

/-- Two staged entries; sixteen marks, of which 0x05 is the lowest; and the directory entry that depends on it. -/
def pair : List Staged :=
  [⟨0x0200, .value [1, 2], none⟩, ⟨0x0210, .delete, some 5⟩]

@[inherit_doc pair]
def marks16 : List MarkEntry :=
  (List.range 16).map (fun i => ⟨BitVec.ofNat 32 (0x14 - i), ⟨3, 1 + i⟩, 1⟩)

@[inherit_doc pair]
def dependent : List DirEntry :=
  [⟨0x0300, .live, ⟨3, 40⟩, 16, 0x05, .tagged⟩]

theorem witness_CommitStarts :
    (committingNext pair dependent marks16).held = false ∧ (committingNext pair dependent marks16).engine = .idle
      ∧ (committingNext pair dependent marks16).supply = .normal ∧ (committingNext pair dependent marks16).store = .ready
      ∧ (committingNext pair dependent marks16).queue = ⟨7, .commit 0, .link0, 4, 1⟩ :: []
      ∧ (committingNext pair dependent marks16).context 0
        = .committing .link0 100 (⟨0x0200, .value [1, 2], none⟩ :: [⟨0x0210, .delete, some 5⟩]) 7
      ∧ (committingNext pair dependent marks16).openSector = some (0, 1, 254)
      ∧ (marks16.drop 1).length < 16 ∧ 16 ≤ marks16.length ∧ (⟨0x05, ⟨3, 16⟩, 1⟩ : MarkEntry) ∈ marks16
      ∧ (∀ n ∈ marks16, (0x05 : Gen).toNat ≤ n.generation.toNat)
      ∧ dependent.find? (fun d => decide (d.generation = 0x05 ∧ d.tagging = .tagged)) = some ⟨0x0300, .live, ⟨3, 40⟩, 16, 0x05, .tagged⟩
      ∧ 1 + ((CellArray.erased.readValue ⟨3, 40⟩ 16).length + 15) / 16 ≤ 256 - 254 := by
  decide +kernel

/-- With a mark free the commit is RUNNING, with none it is FOLDING. -/
theorem test_commit_start : (next (committingNext pair dependent (marks16.drop 1)) .jobStart).engine = .running
    ∧ (next (committingNext pair dependent marks16) .jobStart).engine = .folding := by
  decide +kernel

/-- A FORMAT at the head of the queue, with sector 0 retired and an OPEN context. -/
def formatNext : State :=
  { withContexts with queue := [⟨7, .format, .link0, 0, 0⟩], sectors := ready.sectors.set (0 : Sector) ⟨.retired, 1, 0, 0, 0⟩ }

theorem witness_FormatStarts :
    formatNext.held = false ∧ formatNext.engine = .idle ∧ formatNext.supply = .normal ∧ formatNext.queue = [⟨7, .format, .link0, 0, 0⟩]
      ∧ formatNext.sectors[(1 : Sector)].nonRetired = true ∧ (∀ z : Sector, z < 1 → formatNext.sectors[z].nonRetired = false)
      ∧ formatNext.context 1 = .opened .link1 5000 9 staged12 := by
  decide +kernel

/-- A RECLAIM_REQ at the head of the queue. -/
def reclaimNext (s : State) (pass : Option Pass) : State :=
  { s with queue := [⟨7, .reclaimReq, .link0, 0, 0⟩], pass := pass }

theorem witness_ReclaimRequestStarts :
    ((reclaimNext ready none).held = false ∧ (reclaimNext ready none).engine = .idle ∧ (reclaimNext ready none).supply = .normal
      ∧ (reclaimNext ready none).store = .ready ∧ (reclaimNext ready none).running = none
      ∧ (reclaimNext ready none).queue = ⟨7, .reclaimReq, .link0, 0, 0⟩ :: [] ∧ (reclaimNext ready none).pass = none)
    ∧ (∀ x : Sector, (∃ q, ready.sectors[x].state = .full q) ∧ ready.sectors[x].pending = 0 → ready.sectors[x].stale = 0)
    ∧ (∃ q, (wearing 1000).sectors[(7 : Sector)].state = .full q) ∧ (wearing 1000).sectors[(7 : Sector)].pending = 0
    ∧ 1 ≤ (wearing 1000).sectors[(7 : Sector)].stale
    ∧ (∀ y : Sector, y ≠ 7 → (wearing 1000).sectors[y].stale < (wearing 1000).sectors[(7 : Sector)].stale
        ∨ ((wearing 1000).sectors[y].stale = (wearing 1000).sectors[(7 : Sector)].stale
          ∧ (wearing 1000).sectors[(7 : Sector)].eraseCount.toNat < (wearing 1000).sectors[y].eraseCount.toNat))
    ∧ (reclaimNext ready (some ⟨.copying 256, 9, .background, false, none⟩)).pass = some ⟨.copying 256, 9, .background, false, none⟩ := by
  have stale : ∀ x : Sector, ready.sectors[x].stale = 0 := by decide +kernel
  exact ⟨⟨rfl, rfl, rfl, rfl, rfl, rfl, rfl⟩, fun x _ => stale x, ⟨2, by decide +kernel⟩, by decide +kernel, by decide +kernel,
    by decide +kernel, rfl⟩

/-- Section 5.2 once more: with the spread at 202 the space condition holds, with the spread at 299 the wear condition. -/
theorem witness_BackgroundPassTakesItsVictim :
    ((wearing 1000).held = false ∧ (wearing 1000).engine = .idle ∧ (wearing 1000).supply = .normal ∧ (wearing 1000).store = .ready
      ∧ (wearing 1000).queue = [] ∧ (wearing 1000).pass = none)
    ∧ (wearing 1000).erasedSectors.length ≤ 2
    ∧ ((∃ q, (wearing 1000).sectors[(7 : Sector)].state = .full q) ∧ (wearing 1000).sectors[(7 : Sector)].pending = 0
      ∧ 64 ≤ (wearing 1000).sectors[(7 : Sector)].stale)
    ∧ (∀ x y : Sector, (wearing 1000).sectors[x].nonRetired = true → (wearing 1000).sectors[y].nonRetired = true →
        ¬ (wearing 1000).sectors[x].eraseCount.toNat + 256 ≤ (wearing 1000).sectors[y].eraseCount.toNat)
    ∧ ((wearing 903).sectors[(13 : Sector)].nonRetired = true ∧ (wearing 903).sectors[(21 : Sector)].nonRetired = true
      ∧ (wearing 903).sectors[(13 : Sector)].eraseCount.toNat + 256 ≤ (wearing 903).sectors[(21 : Sector)].eraseCount.toNat)
    ∧ ((∃ q, (wearing 903).sectors[(13 : Sector)].state = .full q) ∧ (wearing 903).sectors[(13 : Sector)].pending = 0
      ∧ ∀ y : Sector, (wearing 903).sectors[y].nonRetired = true →
          (wearing 903).sectors[(13 : Sector)].eraseCount.toNat ≤ (wearing 903).sectors[y].eraseCount.toNat) := by
  refine ⟨⟨rfl, rfl, rfl, rfl, rfl, rfl⟩, ?_, ⟨⟨2, ?_⟩, ?_⟩, ?_, ?_, ⟨4, ?_⟩, ?_⟩ <;> decide +kernel

/-- A suspended pass in a phase, over the array of `formatted`, whose directory points at the image at 0 / 1; the OPEN sector has room for
exactly its two lines. -/
def suspended (phase : PassPhase) : State :=
  { ready with
    array := formatted.array
    directory := [⟨0x0200, .live, ⟨0, 1⟩, 2, 0x10, .solo⟩]
    pass := some ⟨phase, 0, .urgent, false, none⟩
    sectors := ((Vector.replicate 32 ⟨.erased, 1, 0, 0, 0⟩).set (0 : Sector) ⟨.victim 5, 1, 2, 0, 253⟩).set (4 : Sector)
      ⟨.opened 6 254, 1, 0, 0, 253⟩ }

/-- The same victim with a SOLO tombstone of key 0x0200 at its last line, and the oldest sector of all. -/
def tombed : State :=
  { suspended (.copying 255) with
    array := formatted.array.writeLine ⟨0, 255⟩ (Image.mk .tombstone .solo 0x0200 0x11 []).headerLine
    directory := [⟨0x0200, .deleted, ⟨0, 255⟩, 0, 0x11, .solo⟩] }

/-- The same pass, running and between two of its steps, in a mode, a supply state and a queue. -/
def walking (s : State) (mode : PassMode) (supply : Supply) (queue : List Job) : State :=
  { s with
    pending := []
    engine := .reclaiming mode
    pass := s.pass.map (fun p => { p with mode := mode, running := true })
    supply := supply
    queue := queue }

theorem witness_PassWalksImageByImage (phase : PassPhase) :
    ((suspended phase).held = false ∧ (suspended phase).engine = .idle ∧ (suspended phase).supply = .normal
      ∧ (suspended phase).store = .ready ∧ (suspended phase).queue = []
      ∧ (suspended phase).pass = some ⟨phase, 0, .urgent, false, none⟩)
    ∧ (walking (suspended .erasing) .background .low [⟨7, .reclaimReq, .link0, 0, 0⟩]).pass = some ⟨.erasing, 0, .background, true, none⟩
    ∧ (∀ x, ArrayOp.erase x .reclaim ∉ (walking (suspended .erasing) .background .low [⟨7, .reclaimReq, .link0, 0, 0⟩]).ops)
    ∧ (walking (suspended (.copying 256)) .urgent .normal []).engine = .reclaiming .urgent
    ∧ readImageHeader (formatted.array.readLine ⟨0, 1⟩) 1 = .image header0200
    ∧ readImageHeader (formatted.array.readLine ⟨0, 3⟩) 3 = .unwritten
    ∧ (suspended (.copying 1)).lookup 0x0200 = some ⟨0x0200, .live, ⟨0, 1⟩, 2, 0x10, .solo⟩
    ∧ (suspended (.copying 1)).openSector = some (4, 6, 254) ∧ header0200.lines ≤ 256 - 254
    ∧ (tombed.pass = some ⟨.copying 255, 0, .urgent, false, none⟩ ∧ tombed.isOldest 0 = true ∧ tombed.holder 0x0200 = none
      ∧ readImageHeader (tombed.array.readLine ⟨0, 255⟩) 255 = .image ⟨.tombstone, .solo, 0x0200, 0, 0x11, crc16 []⟩
      ∧ tombed.lookup 0x0200 = some ⟨0x0200, .deleted, ⟨0, 255⟩, 0, 0x11, .solo⟩)
    ∧ (quieted (walking (suspended (.copying 1)) .urgent .normal [])).ops.length = 1
    ∧ (quieted (walking (suspended .erasing) .urgent .normal [])).ops = [.erase 0 .reclaim] := by
  refine ⟨⟨rfl, rfl, rfl, rfl, rfl, rfl⟩, rfl, fun _ => List.not_mem_nil, rfl, ?_, ?_, ?_, ?_, ?_, ?_, ?_, ?_⟩ <;> decide +kernel

/-- The image at the cursor is copied; one that nothing points at is skipped; a tombstone is dropped. The pass comes to the pause point after
that in the next step: it stops there in LOW, suspends there for a job, and else goes on to the end of the walk and the erase (R106, R147). -/
theorem test_pass_resumes :
    ((next (suspended (.copying 1)) .passResume).writing .reclaim).map (·.image) = some image0200
      ∧ (next { suspended (.copying 1) with directory := [] } .passResume).pass = some ⟨.copying 3, 0, .background, true, none⟩
      ∧ (next tombed .passResume).directory = []
      ∧ (quieted (walking (next tombed .passResume) .background .low [])).engine = .paused
      ∧ (quieted (walking (next tombed .passResume) .background .normal [⟨7, .reclaimReq, .link0, 0, 0⟩])).pass
        = some ⟨.copying 256, 0, .background, false, none⟩
      ∧ (quieted (next tombed .passResume)).pass = some ⟨.erasing, 0, .background, true, none⟩
      ∧ (quieted (quieted (next tombed .passResume))).ops = [.erase 0 .reclaim]
      ∧ (next (next tombed .passResume) (.sectorEraseDone .asExpected)).pass = some ⟨.preparing, 0, .background, true, none⟩ := by
  decide +kernel

theorem witness_HelloRestartsTheSession :
    (asking withContexts .link0 ⟨9, 0x01, [0x1F]⟩).serving .link0 ⟨9, 0x01, [0x1F]⟩
      ∧ (0x1F : Byte).toNat < 0x20 :=
  ⟨asking_serves _ _ _ rfl rfl, by decide +kernel⟩

theorem witness_StatAndSectorsReport :
    (asking withContexts .link0 ⟨9, 0x02, []⟩).serving .link0 ⟨9, 0x02, []⟩ ∧ (asking withContexts .link1 ⟨9, 0x03, []⟩).serving .link1 ⟨9, 0x03, []⟩ :=
  ⟨asking_serves _ _ _ rfl rfl, asking_serves _ _ _ rfl rfl⟩

theorem witness_LinkstatReportsTheNamedLink :
    (asking withContexts .link0 ⟨9, 0x04, [if Link.link1 = .link0 then 0 else 1]⟩).serving .link0 ⟨9, 0x04, [if Link.link1 = .link0 then 0 else 1]⟩ :=
  asking_serves _ _ _ rfl rfl

theorem witness_NoticesSetsTheMask :
    (asking withContexts .link1 ⟨9, 0x31, [0x20]⟩).serving .link1 ⟨9, 0x31, [0x20]⟩
      ∧ (asking withContexts .link0 ⟨9, 0x31, [0x1F]⟩).held = false :=
  ⟨asking_serves _ _ _ rfl rfl, by decide +kernel⟩

theorem witness_UnknownTypeRefused :
    (asking withContexts .link0 ⟨9, 0x40, []⟩).serving .link0 ⟨9, 0x40, []⟩
      ∧ (0x40 : Byte).toNat ∉ [0x01, 0x02, 0x03, 0x04, 0x10, 0x11, 0x12, 0x13, 0x20, 0x21, 0x22, 0x23, 0x24, 0x25, 0x30, 0x31, 0x38,
        0x39, 0x3A, 0x3F] :=
  ⟨asking_serves _ _ _ rfl rfl, by decide +kernel⟩

theorem witness_ReadCommittedAnswersFromTheDirectory :
    (asking withContexts .link0 ⟨9, 0x10, be16 0xFEFF ++ [0] ++ [7]⟩).serving .link0 ⟨9, 0x10, be16 0xFEFF ++ [0] ++ [7]⟩
      ∧ ([7] : List Byte).length ≤ 1 ∧ ([] : List Byte).length ≤ 1 :=
  ⟨asking_serves _ _ _ rfl rfl, by decide +kernel⟩

theorem witness_ListWalksInKeyOrder :
    (asking withContexts .link0 ⟨9, 0x11, be16 1 ++ [32]⟩).serving .link0 ⟨9, 0x11, be16 1 ++ [32]⟩ ∧ 1 ≤ (32 : Byte).toNat
      ∧ (32 : Byte).toNat ≤ 32 ∧ 1 ≤ (1 : Byte).toNat ∧ userKey 1 ∧ userKey 0xFEFF
      ∧ (asking withContexts .link0 ⟨9, 0x11, be16 1 ++ [32]⟩).store.readable = true := by
  refine ⟨asking_serves _ _ _ rfl rfl, ?_⟩
  unfold userKey
  decide +kernel

theorem witness_WriteAndDeleteByTheirSteps :
    (asking withContexts .link0 ⟨9, 0x12, be16 0x0200 ++ be16 256 ++ List.replicate 256 1⟩).serving .link0
        ⟨9, 0x12, be16 0x0200 ++ be16 256 ++ List.replicate 256 1⟩
      ∧ (asking withContexts .link1 ⟨9, 0x13, be16 0x0520⟩).serving .link1 ⟨9, 0x13, be16 0x0520⟩ :=
  ⟨asking_serves _ _ _ rfl rfl, asking_serves _ _ _ rfl rfl⟩

theorem witness_CommitByItsSteps :
    (asking withContexts .link1 ⟨9, 0x23, [2]⟩).serving .link1 ⟨9, 0x23, [2]⟩
      ∧ (asking withContexts .link1 ⟨9, 0x23, [2]⟩).context 1 = .opened .link1 5000 9 staged12 ∧ staged12 ≠ []
      ∧ (asking withContexts .link0 ⟨9, 0x23, [1]⟩).context 0 = .opened .link0 5000 7 []
      ∧ (asking withContexts .link0 ⟨9, 0x23, [1]⟩).store.readable = true :=
  ⟨asking_serves _ _ _ rfl rfl, by decide +kernel⟩

theorem witness_UnstageAndAbortGiveBack :
    (asking withContexts .link1 ⟨9, 0x22, [2] ++ be16 0x0520⟩).serving .link1 ⟨9, 0x22, [2] ++ be16 0x0520⟩
      ∧ (asking withContexts .link1 ⟨9, 0x24, [2]⟩).serving .link1 ⟨9, 0x24, [2]⟩
      ∧ (asking withContexts .link1 ⟨9, 0x22, [2] ++ be16 0x0520⟩).context 1 = .opened .link1 5000 9 staged12
      ∧ (asking withContexts .link1 ⟨9, 0x24, [2]⟩).store.readable = true
      ∧ staged12.find? (fun e => e.key == 0x0520) = some ⟨0x0520, .value (List.replicate 12 0x77), some 0x400⟩
      ∧ staged12.find? (fun e => e.key == 0x0521) = none :=
  ⟨asking_serves _ _ _ rfl rfl, asking_serves _ _ _ rfl rfl, by decide +kernel⟩

theorem witness_OwnViewAndTxninfoShowTheContext :
    (asking withContexts .link1 ⟨9, 0x10, be16 0x0520 ++ [1, 2]⟩).serving .link1 ⟨9, 0x10, be16 0x0520 ++ [1, 2]⟩
      ∧ (asking withContexts .link1 ⟨9, 0x25, [2]⟩).serving .link1 ⟨9, 0x25, [2]⟩ ∧ userKey 0x0520
      ∧ (asking withContexts .link1 ⟨9, 0x10, be16 0x0520 ++ [1, 2]⟩).store.readable = true
      ∧ (asking withContexts .link1 ⟨9, 0x10, be16 0x0520 ++ [1, 2]⟩).context 1 = .opened .link1 5000 9 staged12
      ∧ (asking withContexts .link1 ⟨9, 0x25, [2]⟩).context 1 = .opened .link1 5000 9 staged12
      ∧ (asking (withContexts.setContext 1 (.committing .link1 5000 staged12 7)) .link1 ⟨9, 0x25, [2]⟩).context 1
        = .committing .link1 5000 staged12 7 := by
  refine ⟨asking_serves _ _ _ rfl rfl, asking_serves _ _ _ rfl rfl, ?_⟩
  unfold userKey
  decide +kernel

theorem witness_StageByItsSteps :
    (asking withContexts .link1 ⟨9, 0x21, [2] ++ be16 0x0520 ++ [0] ++ be16Nat 256 ++ List.replicate 256 5⟩).serving .link1
        ⟨9, 0x21, [2] ++ be16 0x0520 ++ [0] ++ be16Nat 256 ++ List.replicate 256 5⟩
      ∧ (List.replicate 256 (5 : Byte)).length ≤ 256 ∧ userKey 0x0520 ∧ userKey 1
      ∧ (asking withContexts .link1 ⟨9, 0x21, [2] ++ be16 0x0520 ++ [1] ++ be16Nat 0⟩).context 1 = .opened .link1 5000 9 staged12 := by
  refine ⟨asking_serves _ _ _ rfl rfl, ?_⟩
  unfold userKey
  decide +kernel

theorem witness_WatchTableByItsOps :
    (asking withContexts .link0 ⟨9, 0x30, [0] ++ be16 0xFFFE⟩).serving .link0 ⟨9, 0x30, [0] ++ be16 0xFFFE⟩
      ∧ (0xFFFE : Key) ≠ 0 ∧ (0xFFFE : Key) ≠ 0xFFFF
      ∧ (asking withContexts .link0 ⟨9, 0x30, [2] ++ be16 0⟩).store.readable = true :=
  ⟨asking_serves _ _ _ rfl rfl, by decide +kernel⟩

theorem witness_ZonesReportsTheTable :
    (asking withContexts .link0 ⟨9, 0x38, []⟩).serving .link0 ⟨9, 0x38, []⟩ :=
  asking_serves _ _ _ rfl rfl

theorem witness_StoreWideJobsByTheirSteps :
    (asking withContexts .link0 ⟨9, 0x3A, []⟩).serving .link0 ⟨9, 0x3A, []⟩ ∧ (asking withContexts .link1 ⟨9, 0x3F, []⟩).serving .link1 ⟨9, 0x3F, []⟩ :=
  ⟨asking_serves _ _ _ rfl rfl, asking_serves _ _ _ rfl rfl⟩

theorem witness_WriteCheckByTheZone :
    (∀ (i : Fin 8) (z : Zone), zoned.zones[i] = some z → ¬(z.low.toNat ≤ (0x0200 : Key).toNat ∧ (0x0200 : Key).toNat ≤ z.high.toNat))
      ∧ zoned.zones[(0 : Fin 8)] = some ⟨0x0100, 0x01FF, true, true, true, false⟩
      ∧ (∀ (j : Fin 8) (w : Zone), j ≠ 0 → zoned.zones[j] = some w →
          ¬(w.low.toNat ≤ (0x01FF : Key).toNat ∧ (0x01FF : Key).toNat ≤ w.high.toNat)) := by
  have out : ∀ i : Fin 8, (zoned.zones[i]).any (fun z => decide (z.low.toNat ≤ 0x0200 ∧ 0x0200 ≤ z.high.toNat)) = false := by decide +kernel
  have rest : ∀ j : Fin 8, j ≠ 0 → (zoned.zones[j]).any (fun z => decide (z.low.toNat ≤ 0x01FF ∧ 0x01FF ≤ z.high.toNat)) = false := by
    decide +kernel
  refine ⟨fun i z e h => ?_, rfl, fun j w n e h => ?_⟩
  · have := out i
    rw [e] at this
    exact absurd h (of_decide_eq_false this)
  · have := rest j n
    rw [e] at this
    exact absurd h (of_decide_eq_false this)

theorem witness_BeginOpensTheLowestFree :
    (asking withContexts .link0 ⟨9, 0x20, be16 100⟩).serving .link0 ⟨9, 0x20, be16 100⟩ ∧ (asking withContexts .link0 ⟨9, 0x20, be16 100⟩).context 2 = .free
      ∧ (∀ g : Handle, g < 2 → (asking withContexts .link0 ⟨9, 0x20, be16 100⟩).context g ≠ .free)
      ∧ 100 ≤ (100 : BitVec 16).toNat ∧ (60000 : BitVec 16).toNat ≤ 60000
      ∧ (∀ h : Handle, ({ ready with contexts := Vector.replicate 4 (.opened .link1 100 0 []) } : State).context h ≠ .free) :=
  ⟨asking_serves _ _ _ rfl rfl, by decide +kernel⟩

theorem witness_HandleStepByTheContext :
    (asking withContexts .link0 ⟨9, 0x23, [5]⟩).serving .link0 ⟨9, 0x23, [5]⟩
      ∧ (asking withContexts .link0 ⟨9, 0x21, [5] ++ be16 1 ++ [0] ++ be16Nat 256 ++ List.replicate 256 7⟩).serving .link0
        ⟨9, 0x21, [5] ++ be16 1 ++ [0] ++ be16Nat 256 ++ List.replicate 256 7⟩
      ∧ (asking withContexts .link0 ⟨9, 0x22, [1] ++ be16 0xFFFE⟩).serving .link0 ⟨9, 0x22, [1] ++ be16 0xFFFE⟩
      ∧ (asking withContexts .link0 ⟨9, 0x10, be16 0xFEFF ++ [1, 0]⟩).serving .link0 ⟨9, 0x10, be16 0xFEFF ++ [1, 0]⟩
      ∧ userKey 1 ∧ userKey 0xFEFF ∧ (0xFFFE : Key) ≠ 0 ∧ (0xFFFE : Key) ≠ 0xFFFF ∧ withContexts.store.readable = true
      ∧ (∀ h : Handle, h.val + 1 = (0 : Byte).toNat → (withContexts.context h).owner ≠ some .link0)
      ∧ (∀ h : Handle, h.val + 1 = (5 : Byte).toNat → (withContexts.context h).owner ≠ some .link0)
      ∧ (∀ h : Handle, h.val + 1 = (2 : Byte).toNat → (withContexts.context h).owner ≠ some .link0)
      ∧ (0 : Handle).val + 1 = (1 : Byte).toNat
      ∧ (withContexts.setContext 0 (.committing .link0 5000 [] 7)).context 0 = .committing .link0 5000 [] 7 := by
  refine ⟨asking_serves _ _ _ rfl rfl, asking_serves _ _ _ rfl rfl, asking_serves _ _ _ rfl rfl, asking_serves _ _ _ rfl rfl, ?_⟩
  unfold userKey
  decide +kernel

theorem witness_ZoneSetByItsSteps :
    (asking zoned .link0 ⟨9, 0x39, [7, 0] ++ be16 0x9000 ++ be16 0x9000 ++ [0, 1, 0, 0]⟩).serving .link0
        ⟨9, 0x39, [7, 0] ++ be16 0x9000 ++ be16 0x9000 ++ [0, 1, 0, 0]⟩
      ∧ (0x9000 : Key).toNat ≤ (0x9000 : Key).toNat ∧ [BitVec.ofNat 8 (7 : Fin 8).val, 0x00] = [(7 : Byte), 0]
      ∧ [BitVec.ofNat 8 (0 : Fin 8).val, 0x01] = [(0 : Byte), 1] :=
  ⟨asking_serves _ _ _ rfl rfl, by decide +kernel⟩

end Sys2Proof.Tests
end

section
/-! PROOFS. The zones: the zone a key lies in and the write check it decides (R131, R133), and the report of the table (R141, R184). -/

namespace Sys2Proof.Machine

/-! ### The zone a key lies in (R131) -/

theorem Zone.covers_iff (z : Zone) (k : Key) : z.covers k = true ↔ z.low.toNat ≤ k.toNat ∧ k.toNat ≤ z.high.toNat := by
  simp [Zone.covers]

/-- The search finds a zone that stands in the table and that the key lies in. -/
theorem zoneOf_eq_some {table : ZoneTable} {k : Key} {z : Zone} (found : zoneOf table k = some z) :
    ∃ i : Fin 8, table[i] = some z ∧ z.covers k = true := by
  obtain ⟨entry, member, hit⟩ := List.exists_of_findSome?_eq_some found
  cases entry with
  | none => simp at hit
  | some w =>
    obtain ⟨covered, rfl⟩ : w.covers k = true ∧ w = z := by simpa using hit
    obtain ⟨i, bound, place⟩ := Vector.getElem_of_mem (Vector.mem_toList_iff.mp member)
    exact ⟨⟨i, bound⟩, place, covered⟩

/-- The search finds no zone exactly when the key lies in no zone of the table. -/
theorem zoneOf_eq_none_iff (table : ZoneTable) (k : Key) :
    zoneOf table k = none ↔ ∀ (i : Fin 8) (z : Zone), table[i] = some z → ¬ z.covers k = true := by
  constructor
  · intro missed i z place covered
    have member : some z ∈ table.toList := Vector.mem_toList_iff.mpr (place ▸ Vector.getElem_mem i.isLt)
    simpa [covered] using List.findSome?_eq_none_iff.mp missed _ member
  · intro outside
    cases found : zoneOf table k with
    | none => rfl
    | some z =>
      obtain ⟨i, place, covered⟩ := zoneOf_eq_some found
      exact absurd covered (outside i z place)

/-- A key that lies in one zone of the table alone lies in that zone. -/
theorem zoneOf_of_only {table : ZoneTable} {k : Key} {i : Fin 8} {z : Zone} (place : table[i] = some z) (covered : z.covers k = true)
    (only : ∀ (j : Fin 8) (w : Zone), j ≠ i → table[j] = some w → ¬ w.covers k = true) : zoneOf table k = some z := by
  cases found : zoneOf table k with
  | none => exact absurd covered ((zoneOf_eq_none_iff table k).mp found i z place)
  | some w =>
    obtain ⟨j, place', covered'⟩ := zoneOf_eq_some found
    obtain rfl : j = i := Decidable.byContradiction fun apart => only j w apart place' covered'
    rw [← place', place]

/-! ### The write check (R133) -/

theorem State.writeCheck_of_no_zone {s : State} {k : Key} (free : zoneOf s.zones k = none) (l : Link) (wp : Wp) :
    s.writeCheck l wp k = none := by
  simp [State.writeCheck, free]

theorem Zone.writableBy_eq (z : Zone) (l : Link) : z.writableBy l = if l = .link0 then z.link0Write else z.link1Write := by
  cases l <;> rfl

/-- The three tests of the zone a key lies in, in their order. -/
theorem State.writeCheck_of_zone {s : State} {k : Key} {z : Zone} (zone : zoneOf s.zones k = some z) (l : Link) (wp : Wp) :
    s.writeCheck l wp k =
      if z.frozen = true then some .frozen
      else if z.writableBy l = false then some .isProtected
      else if z.guarded = true ∧ wp = .asserted then some .isProtected
      else none := by
  simp [State.writeCheck, zone]

/-- Settles O50: outside every zone the check passes, and the one zone of a key decides by its tests in order. -/
theorem writeCheckByTheZone : Obligations.WriteCheckByTheZone := by
  intro s l wp k
  simp only [← Zone.covers_iff]
  constructor
  · intro outside
    exact State.writeCheck_of_no_zone ((zoneOf_eq_none_iff s.zones k).mpr outside) l wp
  · intro i z place low high only
    have covered : z.covers k = true := (z.covers_iff k).mpr ⟨low, high⟩
    rw [State.writeCheck_of_zone (zoneOf_of_only place covered only), Zone.writableBy_eq]

/-! ### The report of the table (R141, R184) -/

/-- Two yes/no fields as the two low bits of a byte. -/
theorem flagBits_eq (a b : Bool) : ((if a then 1 else 0) ||| (if b then 2 else 0) : Byte) = BitVec.ofNat 8 (a.toNat + 2 * b.toNat) := by
  cases a <;> cases b <;> rfl

theorem zoneFields_some (z : Zone) :
    zoneFields (some z) = [0x01] ++ be16 z.low ++ be16 z.high
      ++ [BitVec.ofNat 8 (z.link0Write.toNat + 2 * z.link1Write.toNat), BitVec.ofNat 8 (z.guarded.toNat + 2 * z.frozen.toNat)] := by
  simp only [zoneFields, flagBits_eq]

theorem State.zonesReply_fields (s : State) :
    s.zonesReply.fields = (List.finRange 8).flatMap (fun i => byteOf i.val :: zoneFields s.zones[i]) := rfl

theorem exec_zones (s : State) : exec .zones s = execZones s := rfl

/-- What ZONES answers to the request it serves: the table where the store is readable, NOT_READY elsewhere. -/
theorem exec_zones_of_serving {s : State} {l : Link} {r : Request} (h : s.serving l r) (typ : r.typ = 0x38) (empty : r.payload = []) :
    exec .zones s = .next (s.answered l r (if s.store.readable = true then 0x00 :: s.zonesReply.fields else [0x43])) := by
  have row : r.row = .zones := by simp [Request.row, typ]
  have bit : replyType r.typ = r.typ + 0x80 := by rw [typ]; rfl
  have report : (s.take l r).zonesReply = s.zonesReply := by simp [State.zonesReply]
  rw [exec_zones, execZones, State.serve_of_serving h row, empty]
  simp only [parseEmpty, withFormat, State.take_store, readGate_eq]
  by_cases readable : s.store.readable = true
  · simp only [readable, if_true]
    rw [withChecks_pass rfl, report]
    exact congrArg _ (State.reply_take_eq_answered s l r s.zonesReply bit)
  · simp only [readable]
    rw [withChecks_refuse rfl]
    exact congrArg _ (State.reply_take_refused s l r _ bit)

/-- Settles O58: the record of each zone of the report is the one of R184. -/
theorem zonesReportsTheTable : Obligations.ZonesReportsTheTable := by
  intro s l r h typ empty
  rw [exec_zones_of_serving h typ empty]
  refine congrArg (fun fields => Host.Outcome.next (s.answered l r (if s.store.readable = true then 0x00 :: fields else [0x43]))) ?_
  rw [State.zonesReply_fields]
  refine congrArg (List.flatMap · (List.finRange 8)) (funext fun i => congrArg (List.cons (byteOf i.val)) ?_)
  cases s.zones[i] with
  | none => rfl
  | some z => exact zoneFields_some z

end Sys2Proof.Machine
end

section
/-! PROOFS. Session and information requests about one link: the report of LINKSTAT (R165, R172) and the mask of NOTICES (R178). -/

namespace Sys2Proof.Machine

/-! ### LINKSTAT (R165, R172) -/

theorem linkCode_eq (l : Link) : linkCode l = if l = .link0 then 0 else 1 := by
  cases l <;> rfl

/-- The format step reads a link's code back as the link. -/
theorem parseLink_linkCode (l : Link) : parseLink [linkCode l] = .ok l := by
  cases l <;> rfl

/-- Taking a request moves nothing of what LINKSTAT reports, not even of the link it is taken from. -/
theorem State.take_linkstatReply (s : State) (l : Link) (r : Request) (named : Link) :
    (s.take l r).linkstatReply named = s.linkstatReply named := by
  cases l <;> cases named <;> rfl

theorem exec_linkstat (s : State) : exec .linkstat s = execLinkstat s := rfl

/-- What LINKSTAT answers to the request it serves: the report of the link named, and nothing else changes. -/
theorem exec_linkstat_of_serving {s : State} {l named : Link} {r : Request} (h : s.serving l r) (typ : r.typ = 0x04)
    (payload : r.payload = [linkCode named]) :
    exec .linkstat s = .next (s.answered l r (0x00 :: (s.linkstatReply named).fields)) := by
  have row : r.row = .linkstat := by simp [Request.row, typ]
  have bit : replyType r.typ = r.typ + 0x80 := by rw [typ]; rfl
  rw [exec_linkstat, execLinkstat, State.serve_of_serving h row, payload, parseLink_linkCode]
  simp only [withFormat, State.take_linkstatReply]
  exact congrArg _ (State.reply_take_eq_answered s l r (s.linkstatReply named) bit)

/-- Settles O44: the report is that of the link named, whichever link asks. -/
theorem linkstatReportsTheNamedLink : Obligations.LinkstatReportsTheNamedLink := by
  intro s l named r h typ payload
  rw [← linkCode_eq] at payload ⊢
  exact exec_linkstat_of_serving h typ payload

/-! ### NOTICES (R178) -/

/-- The three high bits of a byte are clear exactly when it is below 0x20. -/
theorem extractHigh_eq_zero_iff (m : Byte) : m.extractLsb' 5 3 = 0 ↔ m.toNat < 0x20 := by
  rw [← BitVec.toNat_inj, BitVec.extractLsb'_toNat, Nat.shiftRight_eq_div_pow]
  have := m.isLt
  change m.toNat / 2 ^ 5 % 2 ^ 3 = 0 ↔ m.toNat < 0x20
  omega

/-- The format step of a mask byte: a mask with a high bit set is refused. -/
theorem parseMask_singleton (m : Byte) :
    parseMask [m] = if 0x20 ≤ m.toNat then .error .badFormat else .ok (m.extractLsb' 0 5) := by
  simp only [parseMask, extractHigh_eq_zero_iff, ← Nat.not_le, ite_not]

/-- A mask set while the request is in service is the mask set before the request was taken. -/
theorem State.modLink_mask_take (s : State) (l : Link) (r : Request) (mask : BitVec 5) :
    (s.take l r).modLink l (fun f => { f with mask := mask }) = (s.setLink l { s.link l with mask := mask }).take l r := by
  cases l <;> rfl

theorem exec_notices (s : State) : exec .notices s = execNotices s := rfl

/-- Settles O45: a mask with a high bit set is refused with BAD_FORMAT; any other replaces the mask of the link that asks. -/
theorem noticesSetsTheMask : Obligations.NoticesSetsTheMask := by
  intro s l r m h typ payload
  have row : r.row = .notices := by simp [Request.row, typ]
  have bit : replyType r.typ = r.typ + 0x80 := by rw [typ]; rfl
  rw [exec_notices, execNotices, State.serve_of_serving h row, payload, parseMask_singleton]
  by_cases high : 0x20 ≤ m.toNat
  · rw [if_pos high, if_pos high]
    exact congrArg _ (State.reply_take_refused s l r .badFormat bit)
  · rw [if_neg high, if_neg high]
    simp only [withFormat, State.modLink_mask_take]
    exact congrArg _ (State.reply_take_eq_answered _ l r ⟨.ok, []⟩ bit)

end Sys2Proof.Machine
end

section
/-! PROOFS. Watch requests: what ADD, REMOVE and CLEAR make of the table of the link that asks, and what each answers (R177, R190 to
R192). -/

namespace Sys2Proof.Machine

/-! ### A link's watch table (R190) -/

/-- The state with the watch table of one link replaced. -/
def State.watching (s : State) (l : Link) (keys : List Key) : State :=
  s.setLink l { s.link l with watches := keys }

@[simp] theorem State.link_watches_take (s : State) (l : Link) (r : Request) : ((s.take l r).link l).watches = (s.link l).watches := by
  cases l <;> rfl

/-- A table set while the request is in service is the table set before the request was taken. -/
theorem State.setWatches_take (s : State) (l : Link) (r : Request) (keys : List Key) :
    (s.take l r).setWatches l keys = (s.watching l keys).take l r := by
  cases l <;> rfl

/-- To set a table to what it is moves nothing that is left once the request has been answered. -/
theorem State.answered_watching_self (s : State) (l : Link) (r : Request) (payload : List Byte) :
    (s.watching l (s.link l).watches).answered l r payload = s.answered l r payload := by
  cases l <;> rfl

/-- The reply to a request that leaves the table with these keys: their number, in the state with that table. -/
theorem State.reply_setWatches_take (s : State) (l : Link) (r : Request) (keys : List Key) (bit : replyType r.typ = r.typ + 0x80) :
    ((s.take l r).setWatches l keys).reply l r (watchReply keys)
      = (s.watching l keys).answered l r [0x00, BitVec.ofNat 8 keys.length] := by
  rw [State.setWatches_take]
  exact State.reply_take_eq_answered _ l r (watchReply keys) bit

/-! ### The act of each op on the table (R191, R192) -/

/-- ADD: a present key leaves the table as it is, even a full one; an absent key joins at the end where a place is free. -/
theorem State.reply_addWatch_take (s : State) (l : Link) (r : Request) (k : Key) (bit : replyType r.typ = r.typ + 0x80) :
    ((s.take l r).addWatch l k).1.reply l r ((s.take l r).addWatch l k).2 =
      (let keys := (s.link l).watches
       if k ∈ keys then (s.watching l keys).answered l r [0x00, BitVec.ofNat 8 keys.length]
       else if keys.length < 8 then (s.watching l (keys ++ [k])).answered l r [0x00, BitVec.ofNat 8 (keys ++ [k]).length]
       else s.answered l r [0x35]) := by
  simp only [State.addWatch, State.link_watches_take, List.contains_iff_mem, Config.watchCapacity]
  split
  · rw [State.answered_watching_self]
    exact State.reply_take_eq_answered s l r (watchReply _) bit
  · split
    · exact State.reply_setWatches_take s l r _ bit
    · exact State.reply_take_refused s l r .watchFull bit

/-- REMOVE: the other keys stay in their order; an absent key is refused with NOT_FOUND. -/
theorem State.reply_removeWatch_take (s : State) (l : Link) (r : Request) (k : Key) (bit : replyType r.typ = r.typ + 0x80) :
    ((s.take l r).removeWatch l k).1.reply l r ((s.take l r).removeWatch l k).2 =
      (let left := (s.link l).watches.filter (fun j => decide (j ≠ k))
       if k ∈ (s.link l).watches then (s.watching l left).answered l r [0x00, BitVec.ofNat 8 left.length]
       else s.answered l r [0x20]) := by
  have others : (fun j => !(j == k)) = (fun j => decide (j ≠ k)) := by
    funext j
    by_cases same : j = k
    · simp only [same, beq_self_eq_true, ne_eq, not_true, decide_false, Bool.not_true]
    · simp only [same, beq_eq_false_iff_ne.mpr same, ne_eq, not_false_eq_true, decide_true, Bool.not_false]
  simp only [State.removeWatch, State.link_watches_take, List.contains_iff_mem, others]
  split
  · exact State.reply_setWatches_take s l r _ bit
  · exact State.reply_take_refused s l r .notFound bit

/-! ### The steps that take a WATCH (R168, R183) -/

/-- The op byte of a WATCH decides the step that takes it. -/
theorem Request.row_of_watch {r : Request} {op : Byte} {rest : List Byte} (typ : r.typ = 0x30) (payload : r.payload = op :: rest) :
    r.row = if op = 1 then .watchRemove else if op = 2 then .watchClear else .watchAdd := by
  simp [Request.row, typ, payload]

theorem replyType_watch : replyType 0x30 = 0x30 + 0x80 := rfl

/-- A key that is not invalid passes the key step and a readable store the gate. -/
theorem watchChecks_pass {k : Key} {store : Store} (low : k ≠ 0) (high : k ≠ 0xFFFF) (readable : store.readable = true) :
    firstRefusal [anyKeyStep k, readGate store] = none := by
  rw [anyKeyStep_eq, if_neg (not_or.mpr ⟨low, high⟩), readGate_eq, if_pos readable]
  rfl

theorem exec_watchAdd (s : State) : exec .watchAdd s = execWatchAdd s := rfl
theorem exec_watchRemove (s : State) : exec .watchRemove s = execWatchRemove s := rfl
theorem exec_watchClear (s : State) : exec .watchClear s = execWatchClear s := rfl

section
variable {s : State} {l : Link} {r : Request} {k : Key}

/-- An ADD of a key that passes the checks acts on the table. -/
theorem exec_watchAdd_of_serving (h : s.serving l r) (typ : r.typ = 0x30) (payload : r.payload = [0] ++ be16 k)
    (low : k ≠ 0) (high : k ≠ 0xFFFF) (readable : s.store.readable = true) :
    exec .watchAdd s = .next (((s.take l r).addWatch l k).1.reply l r ((s.take l r).addWatch l k).2) := by
  have row : r.row = .watchAdd := Request.row_of_watch typ payload
  rw [exec_watchAdd, execWatchAdd, State.serve_of_serving h row, payload, parseWatch_layout]
  simp only [withFormat, State.take_store, withChecks_pass (watchChecks_pass low high readable)]

/-- A REMOVE of a key that passes the checks acts on the table. -/
theorem exec_watchRemove_of_serving (h : s.serving l r) (typ : r.typ = 0x30) (payload : r.payload = [1] ++ be16 k)
    (low : k ≠ 0) (high : k ≠ 0xFFFF) (readable : s.store.readable = true) :
    exec .watchRemove s = .next (((s.take l r).removeWatch l k).1.reply l r ((s.take l r).removeWatch l k).2) := by
  have row : r.row = .watchRemove := Request.row_of_watch typ payload
  rw [exec_watchRemove, execWatchRemove, State.serve_of_serving h row, payload, parseWatch_layout]
  simp only [withFormat, State.take_store, withChecks_pass (watchChecks_pass low high readable)]

/-- A CLEAR empties the table, whatever its key field holds. -/
theorem exec_watchClear_of_serving (h : s.serving l r) (typ : r.typ = 0x30) (payload : r.payload = [2] ++ be16 k)
    (readable : s.store.readable = true) :
    exec .watchClear s = .next (((s.take l r).setWatches l []).reply l r (watchReply [])) := by
  have pass : firstRefusal [readGate s.store] = none := by
    rw [readGate_eq, if_pos readable]
    rfl
  have row : r.row = .watchClear := Request.row_of_watch typ payload
  rw [exec_watchClear, execWatchClear, State.serve_of_serving h row, payload, parseWatch_layout]
  simp only [withFormat, State.take_store, withChecks_pass pass]

end

/-- Settles O57: each op, once its checks pass, acts on the table of the link that asks and answers the number of keys it leaves. -/
theorem watchTableByItsOps : Obligations.WatchTableByItsOps := by
  intro s l r op k h typ payload readable
  have bit : replyType r.typ = r.typ + 0x80 := typ ▸ replyType_watch
  refine ⟨?add, ?remove, ?clear⟩
  case add =>
    rintro rfl low high
    rw [exec_watchAdd_of_serving h typ payload low high readable, State.reply_addWatch_take s l r k bit]
    rfl
  case remove =>
    rintro rfl low high
    rw [exec_watchRemove_of_serving h typ payload low high readable, State.reply_removeWatch_take s l r k bit]
    rfl
  case clear =>
    rintro rfl
    rw [exec_watchClear_of_serving h typ payload readable, State.reply_setWatches_take s l r [] bit]
    rfl

end Sys2Proof.Machine
end

section
/-! PROOFS. The directory's order (law L6) through an insertion and through mount's rebuilding, and the frames of the operations on
directory and mark table: each changes those two and the sector records alone (R10 to R12, R83, R104, R119, R120). -/

namespace Sys2Proof.Machine

/-! ### Insertion in key order (R10) -/

/-- What an insertion holds is the new entry and what was there. -/
theorem mem_insertEntry {e d : DirEntry} : ∀ {entries : List DirEntry}, d ∈ insertEntry e entries → d = e ∨ d ∈ entries
  | [], h => by simpa [insertEntry] using h
  | a :: rest, h => by
    unfold insertEntry at h
    split at h
    · simpa using h
    · split at h
      · rcases List.mem_cons.mp h with h | h
        · exact .inl h
        · exact .inr (List.mem_cons_of_mem _ h)
      · rcases List.mem_cons.mp h with rfl | h
        · exact .inr List.mem_cons_self
        · exact (mem_insertEntry h).imp_right (List.mem_cons_of_mem _)

/-- An insertion keeps the strict order of keys. -/
theorem insertEntry_ordered (e : DirEntry) : ∀ {entries : List DirEntry},
    entries.Pairwise (fun a b => a.key.toNat < b.key.toNat) →
      (insertEntry e entries).Pairwise (fun a b => a.key.toNat < b.key.toNat)
  | [], _ => by simp [insertEntry]
  | a :: rest, h => by
    obtain ⟨first, tail⟩ := List.pairwise_cons.mp h
    unfold insertEntry
    split
    · next lower =>
      refine List.pairwise_cons.mpr ⟨fun d m => ?_, h⟩
      rcases List.mem_cons.mp m with rfl | m
      · exact lower
      · exact Nat.lt_trans lower (first d m)
    · next notLower =>
      split
      · next same => exact List.pairwise_cons.mpr ⟨fun d m => same ▸ first d m, tail⟩
      · next other =>
        refine List.pairwise_cons.mpr ⟨fun d m => ?_, insertEntry_ordered e tail⟩
        rcases mem_insertEntry m with rfl | m
        · exact Nat.lt_of_le_of_ne (Nat.not_lt.mp notLower) fun eq => other (BitVec.eq_of_toNat_eq eq.symm)
        · exact first d m

/-! ### The winners of mount in key order (R119, R120) -/

theorem mem_enterWinner {c w : Candidate} : ∀ {ws : List Candidate}, w ∈ enterWinner c ws → w = c ∨ w ∈ ws
  | [], h => by simpa [enterWinner] using h
  | a :: rest, h => by
    unfold enterWinner at h
    split at h
    · simpa using h
    · split at h
      · rcases List.mem_cons.mp h with h | h
        · split at h
          · exact .inl h
          · exact .inr (h ▸ List.mem_cons_self)
        · exact .inr (List.mem_cons_of_mem _ h)
      · rcases List.mem_cons.mp h with rfl | h
        · exact .inr List.mem_cons_self
        · exact (mem_enterWinner h).imp_right (List.mem_cons_of_mem _)

theorem enterWinner_ordered (c : Candidate) : ∀ {ws : List Candidate},
    ws.Pairwise (fun a b => a.key.toNat < b.key.toNat) → (enterWinner c ws).Pairwise (fun a b => a.key.toNat < b.key.toNat)
  | [], _ => by simp [enterWinner]
  | a :: rest, h => by
    obtain ⟨first, tail⟩ := List.pairwise_cons.mp h
    unfold enterWinner
    split
    · next lower =>
      refine List.pairwise_cons.mpr ⟨fun d m => ?_, h⟩
      rcases List.mem_cons.mp m with rfl | m
      · exact lower
      · exact Nat.lt_trans lower (first d m)
    · next notLower =>
      split
      · next same =>
        have key : (if c.beats a then c else a).key = a.key := by split <;> simp [same]
        exact List.pairwise_cons.mpr ⟨fun d m => key ▸ first d m, tail⟩
      · next other =>
        refine List.pairwise_cons.mpr ⟨fun d m => ?_, enterWinner_ordered c tail⟩
        rcases mem_enterWinner m with rfl | m
        · exact Nat.lt_of_le_of_ne (Nat.not_lt.mp notLower) fun eq => other (BitVec.eq_of_toNat_eq eq.symm)
        · exact first d m

/-- Entering any number of candidates keeps the winners in key order. -/
theorem foldl_enterWinner_ordered (cs : List Candidate) : ∀ {ws : List Candidate},
    ws.Pairwise (fun a b => a.key.toNat < b.key.toNat) →
      (cs.foldl (fun ws c => enterWinner c ws) ws).Pairwise (fun a b => a.key.toNat < b.key.toNat) := by
  induction cs with
  | nil => exact fun h => h
  | cons c rest ih => exact fun h => ih (enterWinner_ordered c h)

theorem winnersOf_ordered (candidates : List Candidate) :
    (winnersOf candidates).Pairwise (fun a b => a.key.toNat < b.key.toNat) :=
  foldl_enterWinner_ordered _ List.Pairwise.nil

theorem keptWinners_ordered {winners : List Candidate} (h : winners.Pairwise (fun a b => a.key.toNat < b.key.toNat)) :
    (keptWinners winners).Pairwise (fun a b => a.key.toNat < b.key.toNat) :=
  foldl_enterWinner_ordered _ (List.Pairwise.sublist (List.take_sublist _ _) (h.filter _))

/-- The directory that mount rebuilds is in key order. -/
theorem keptEntries_ordered (candidates : List Candidate) :
    ((keptWinners (winnersOf candidates)).map Candidate.entry).Pairwise (fun a b => a.key.toNat < b.key.toNat) :=
  List.pairwise_map.mpr (keptWinners_ordered (winnersOf_ordered candidates))

/-! ### Frames of the operations on directory and mark table -/

theorem State.loseDependent_frame (s : State) (g : Gen) :
    s.loseDependent g = { s with marks := (s.loseDependent g).marks, sectors := (s.loseDependent g).sectors } := by
  unfold State.loseDependent
  split
  · rfl
  · split <;> rfl

theorem State.released_frame (s : State) (e : DirEntry) :
    s.released e = { s with marks := (s.released e).marks, sectors := (s.released e).sectors } := by
  unfold State.released
  split
  · exact s.loseDependent_frame _
  · rfl

/-- An entry of a SOLO image depends on no mark (R83). -/
theorem State.released_of_solo (s : State) {e : DirEntry} (solo : e.tagging = .solo) : s.released e = s := by
  simp [State.released, solo]

/-- The directory entry that an image takes when the directory takes it at a location (R10). -/
def Image.entryAt (i : Image) (loc : Loc) : DirEntry :=
  ⟨i.key, if i.kind = .value then .live else .deleted, loc, i.value.length, i.generation, i.tagging⟩

/-- The switch of one image whose key has no entry (R10). -/
theorem State.switchOne_of_new {s : State} {i : Image} (absent : s.lookup i.key = none) (loc : Loc) :
    s.switchOne i loc
      = ({ s with directory := insertEntry (i.entryAt loc) s.directory } : State).pendingToLive loc.sector i.lines := by
  obtain ⟨kind, _, _, _, _⟩ := i
  cases kind <;> simp only [State.switchOne, absent] <;> rfl

/-- The switch of one image that supersedes the image of an entry (R10, R83). -/
theorem State.switchOne_of_old {s : State} {i : Image} {old : DirEntry} (found : s.lookup i.key = some old) (loc : Loc) :
    s.switchOne i loc
      = ((({ s with directory := insertEntry (i.entryAt loc) s.directory } : State).pendingToLive loc.sector i.lines).liveToStale
          old.loc.sector old.lines).released old := by
  obtain ⟨kind, _, _, _, _⟩ := i
  cases kind <;> simp only [State.switchOne, found] <;> rfl

/-- The switch of one image inserts its entry and changes mark table and sector records besides. -/
theorem State.switchOne_frame (s : State) (i : Image) (loc : Loc) :
    s.switchOne i loc = { s with
      directory := insertEntry (i.entryAt loc) s.directory
      marks := (s.switchOne i loc).marks
      sectors := (s.switchOne i loc).sectors } := by
  cases found : s.lookup i.key with
  | none => rw [State.switchOne_of_new found]; rfl
  | some old => rw [State.switchOne_of_old found, State.released_frame]; rfl

/-- A repoint changes the directory in place, the mark table and the sector records alone (R11). -/
theorem State.repoint_frame (s : State) (k : Key) (source copy : Loc) (lines : Nat) :
    ∃ entries, (entries = s.directory ∨ ∃ e, entries = insertEntry e s.directory) ∧
      s.repoint k source copy lines = { s with
        directory := entries
        marks := (s.repoint k source copy lines).marks
        sectors := (s.repoint k source copy lines).sectors } := by
  unfold State.repoint
  split
  · next e _ =>
    split
    · refine ⟨_, .inr ⟨{ e with loc := copy, tagging := .solo }, rfl⟩, ?_⟩
      simp only
      rw [State.released_frame]
      rfl
    · exact ⟨_, .inl rfl, rfl⟩
  · exact ⟨_, .inl rfl, rfl⟩

/-- A drop takes the key's entry out and changes mark table and sector records besides (R12). -/
theorem State.drop_frame {s t : State} {k : Key} {loc : Loc} (dropped : s.drop k loc = some t) :
    t = { s with directory := s.directory.filter (fun d => !(d.key == k)), marks := t.marks, sectors := t.sectors } := by
  unfold State.drop at dropped
  split at dropped
  · split at dropped
    · obtain rfl := Option.some.inj dropped
      rw [State.released_frame]
      rfl
    · cases dropped
  · cases dropped

theorem State.relocateMark_frame (s : State) (source copy : Loc) :
    s.relocateMark source copy =
      { s with marks := (s.relocateMark source copy).marks, sectors := (s.relocateMark source copy).sectors } := by
  unfold State.relocateMark
  split <;> rfl

/-- Records set for all sectors change the sector table alone. -/
theorem State.foldl_modSector_frame (f : Sector → SectorRecord → SectorRecord) (xs : List Sector) (s : State) :
    xs.foldl (fun t x => t.modSector x (f x)) s
      = { s with sectors := (xs.foldl (fun t x => t.modSector x (f x)) s).sectors } := by
  induction xs generalizing s with
  | nil => rfl
  | cons x rest ih => rw [List.foldl_cons, ih]; rfl

theorem State.setRecords_frame (s : State) (f : Sector → SectorRecord) :
    s.setRecords f = { s with sectors := (s.setRecords f).sectors } :=
  State.foldl_modSector_frame (fun x _ => f x) allSectors s

theorem State.staleAll_frame (s : State) : s.staleAll = { s with sectors := s.staleAll.sectors } :=
  State.foldl_modSector_frame (fun _ r => { r with live := 0, stale := r.stale + r.live }) allSectors s

theorem State.victimsToFull_frame (s : State) (xs : List Sector) :
    s.victimsToFull xs = { s with sectors := (s.victimsToFull xs).sectors } := by
  induction xs generalizing s with
  | nil => rfl
  | cons x rest ih => rw [State.victimsToFull, ih]; rfl

end Sys2Proof.Machine
end

section
/-! PROOFS. What every event of the part keeps: the invariants of Safety.lean, the reset line, the array and, but for a switch, a format's start
and mount, the zone table. The relation `State.Keeps` is proved once for each shared operation and composed along the events. -/

namespace Sys2Proof.Machine

/-! ### The relation -/

/-- What leads from a state to a next one without the completion of an array operation, a reset or its release, and without a request in
service: each invariant is kept, and the zone table stays unless the event is `zoned`. -/
structure State.Keeps (zoned : Prop) (s t : State) : Prop where
  held : t.held = s.held
  array : t.array = s.array
  slots : s.slotsHold → t.slotsHold
  attn : s.attnAgrees → t.attnAgrees
  order : s.directoryOrdered → t.directoryOrdered
  holders : s.holdsSingle → t.holdsSingle
  lists : s.listsHold → t.listsHold
  folds : s.foldsInCommits → t.foldsInCommits
  zones : zoned ∨ t.zones = s.zones

/-- The parts of the state that `State.Keeps` speaks of. -/
def State.guarded (s : State) :=
  (s.held, s.array, (s.lf0, s.lf1, s.attn), s.directory, s.holds, s.contexts, s.running, s.zones)

section
variable {zoned : Prop} {s t u : State}

theorem State.Keeps.trans (h : State.Keeps zoned s t) (g : State.Keeps zoned t u) : State.Keeps zoned s u where
  held := g.held.trans h.held
  array := g.array.trans h.array
  slots := g.slots ∘ h.slots
  attn := g.attn ∘ h.attn
  order := g.order ∘ h.order
  holders := g.holders ∘ h.holders
  lists := g.lists ∘ h.lists
  folds := g.folds ∘ h.folds
  zones := by
    rcases h.zones with z | h
    · exact .inl z
    · exact g.zones.imp_right (·.trans h)

/-- A change of none of the guarded parts. -/
theorem State.Keeps.of_guarded (same : t.guarded = s.guarded) : State.Keeps zoned s t := by
  simp only [State.guarded, Prod.mk.injEq] at same
  obtain ⟨held, array, ⟨lf0, lf1, attn⟩, directory, holds, contexts, running, zones⟩ := same
  exact {
    held := held
    array := array
    slots := by simp only [State.slotsHold, lf0, lf1, imp_self]
    attn := by simp only [State.attnAgrees, lf0, attn, imp_self]
    order := by simp only [State.directoryOrdered, directory, imp_self]
    holders := by simp only [State.holdsSingle, holds, imp_self]
    lists := by simp only [State.listsHold, State.context, contexts, imp_self]
    folds := by simp only [State.foldsInCommits, running, imp_self]
    zones := .inr zones }

theorem State.Keeps.refl (zoned : Prop) (s : State) : State.Keeps zoned s s := .of_guarded rfl

theorem State.Keeps.foldl {α : Type} {f : State → α → State} (h : ∀ s a, State.Keeps zoned s (f s a)) (xs : List α) (s : State) :
    State.Keeps zoned s (xs.foldl f s) := by
  induction xs generalizing s with
  | nil => exact .refl zoned s
  | cons a rest ih => exact (h s a).trans (ih _)

/-! ### Changes of one guarded part -/

/-- A change of the directory that leaves it in key order. -/
theorem State.Keeps.of_directory (ordered : s.directoryOrdered → t.directoryOrdered)
    (same : ({ t with directory := s.directory } : State).guarded = s.guarded) : State.Keeps zoned s t :=
  have k : State.Keeps zoned s { t with directory := s.directory } := .of_guarded same
  { held := k.held, array := k.array, slots := k.slots, attn := k.attn, order := ordered, holders := k.holders, lists := k.lists
    folds := k.folds, zones := k.zones }

/-- A change of the job in progress after which a fold still stands in a COMMIT. -/
theorem State.Keeps.of_running (sound : s.foldsInCommits → t.foldsInCommits)
    (same : ({ t with running := s.running } : State).guarded = s.guarded) : State.Keeps zoned s t :=
  have k : State.Keeps zoned s { t with running := s.running } := .of_guarded same
  { held := k.held, array := k.array, slots := k.slots, attn := k.attn, order := k.order, holders := k.holders, lists := k.lists
    folds := sound, zones := k.zones }

/-- The job in progress ends. -/
theorem State.Keeps.of_stop (stopped : t.running = none) (same : ({ t with running := s.running } : State).guarded = s.guarded) :
    State.Keeps zoned s t :=
  .of_running (fun _ r run => by simp [stopped] at run) same

/-- Some holds are released. -/
theorem State.Keeps.of_release {p : Key × Holder → Bool} (released : t.holds = s.holds.filter p)
    (same : ({ t with holds := s.holds } : State).guarded = s.guarded) : State.Keeps zoned s t :=
  have k : State.Keeps zoned s { t with holds := s.holds } := .of_guarded same
  { held := k.held, array := k.array, slots := k.slots, attn := k.attn, order := k.order
    holders := fun h => by rw [State.holdsSingle, released]; exact h.filter p
    lists := k.lists, folds := k.folds, zones := k.zones }

/-- A context takes another content, whose staged list is as well formed. -/
theorem State.setContext_keeps (s : State) (h : Handle) {c : Context} (list : (s.context h).listHolds → c.listHolds) :
    State.Keeps zoned s (s.setContext h c) where
  held := rfl
  array := rfl
  slots := id
  attn := id
  order := id
  holders := id
  lists lists g := by
    rw [State.context_setContext]
    split
    · exact list (lists h)
    · exact lists g
  folds := id
  zones := .inr rfl

/-- A framer takes another content that keeps the slots of the link. -/
theorem State.setLink_keeps (s : State) (l : Link) {f : Framer} (slots : (s.link l).slotsHold → f.slotsHold) :
    State.Keeps zoned s (s.setLink l f) := by
  cases l with
  | link0 => exact ⟨rfl, rfl, fun h => ⟨slots h.1, h.2⟩, fun _ => rfl, id, id, id, id, .inr rfl⟩
  | link1 => exact ⟨rfl, rfl, fun h => ⟨h.1, slots h.2⟩, id, id, id, id, id, .inr rfl⟩

end

/-! ### Notices (R163) -/

/-- A notice enters a slot where one is free; then nothing waits in the backlog. -/
theorem Framer.enter_slotsHold {f : Framer} (n : Notice) (h : f.slotsHold) (free : 0 < f.freeSlots) : (f.enter n).slotsHold := by
  obtain ⟨idle, reserved, fifo, room, backlog⟩ := h
  simp only [Framer.freeSlots, Config.outboundSlots] at free
  refine ⟨idle, reserved, fifo, ?_, fun waits => absurd (backlog waits) (by omega)⟩
  simp only [Framer.enter, List.length_append, List.length_singleton]
  omega

/-- The offer of a notice keeps the slots of the link: a JOB_DONE joins the backlog only while no slot is free. -/
theorem Framer.offer_slotsHold {f : Framer} (n : Notice) (h : f.slotsHold) : (f.offer n).slotsHold := by
  have ⟨idle, reserved, fifo, room, backlog⟩ := h
  unfold Framer.offer
  split
  · split
    · split
      · next free => exact Framer.enter_slotsHold n h (of_decide_eq_true (Bool.and_eq_true_iff.mp free).2)
      · next full =>
        refine ⟨idle, reserved, fifo, room, fun _ => ?_⟩
        by_cases empty : f.backlog = []
        · have none' : f.freeSlots = 0 := Nat.eq_zero_of_not_pos fun free => full (by rw [empty, decide_eq_true free]; rfl)
          rw [Framer.freeSlots, Config.outboundSlots] at none'
          change 16 ≤ f.out.length + f.reservations
          omega
        · exact backlog empty
    · split
      · next free => exact Framer.enter_slotsHold n h free
      · exact ⟨idle, reserved, fifo, room, backlog⟩
  · exact h

variable {zoned : Prop} (s : State)

theorem State.offer_keeps (l : Link) (n : Notice) : State.Keeps zoned s (s.offer l n) :=
  s.setLink_keeps l (Framer.offer_slotsHold n)

theorem State.offerBoth_keeps (n : Notice) : State.Keeps zoned s (s.offerBoth n) :=
  (s.offer_keeps .link0 n).trans (State.offer_keeps _ .link1 n)

/-! ### Sectors, directory and mark table -/

theorem State.modSector_keeps (x : Sector) (f : SectorRecord → SectorRecord) : State.Keeps zoned s (s.modSector x f) := .of_guarded rfl

theorem State.insertEntry_keeps (e : DirEntry) (marks : List MarkEntry) (sectors : Vector SectorRecord 32) :
    State.Keeps zoned s { s with directory := insertEntry e s.directory, marks := marks, sectors := sectors } :=
  .of_directory (insertEntry_ordered e) rfl

theorem State.switchOne_keeps (i : Image) (loc : Loc) : State.Keeps zoned s (s.switchOne i loc) := by
  rw [State.switchOne_frame]
  exact s.insertEntry_keeps ..

theorem State.switchAll_keeps (images : List (Image × Loc)) : State.Keeps zoned s (s.switchAll images) := by
  induction images generalizing s with
  | nil => exact .refl zoned s
  | cons p rest ih => exact (s.switchOne_keeps p.1 p.2).trans (ih _)

theorem State.repoint_keeps (k : Key) (source copy : Loc) (lines : Nat) :
    State.Keeps zoned s (s.repoint k source copy lines) := by
  obtain ⟨entries, change, frame⟩ := s.repoint_frame k source copy lines
  rw [frame]
  rcases change with rfl | ⟨e, rfl⟩
  · exact .of_guarded rfl
  · exact s.insertEntry_keeps ..

theorem State.drop_keeps {s t : State} {k : Key} {loc : Loc} (dropped : s.drop k loc = some t) : State.Keeps zoned s t := by
  rw [State.drop_frame dropped]
  exact .of_directory (List.Pairwise.filter _) rfl

theorem State.relocateMark_keeps (source copy : Loc) : State.Keeps zoned s (s.relocateMark source copy) := by
  rw [State.relocateMark_frame]
  exact .of_guarded rfl

theorem State.switchMark_keeps (g : Gen) (records : Nat) (placed : List Loc) :
    State.Keeps zoned s (s.switchMark g records placed) := by
  unfold State.switchMark
  split <;> exact .of_guarded rfl

theorem State.abandonPlaced_keeps (images : List (Image × Loc)) : State.Keeps zoned s (s.abandonPlaced images) := by
  rw [State.abandonPlaced_frame]
  exact .of_guarded rfl

theorem State.victimsToFull_keeps (xs : List Sector) : State.Keeps zoned s (s.victimsToFull xs) := by
  rw [State.victimsToFull_frame]
  exact .of_guarded rfl

theorem State.staleAll_keeps : State.Keeps zoned s s.staleAll := by
  rw [State.staleAll_frame]
  generalize s.staleAll.sectors = sectors
  exact .of_guarded rfl

/-! ### Contexts and jobs -/

theorem Context.listHolds_free : Context.free.listHolds := ⟨Nat.zero_le _, List.Pairwise.nil⟩

theorem State.freeContext_keeps (h : Handle) : State.Keeps zoned s (s.freeContext h) :=
  (State.Keeps.of_release rfl rfl : State.Keeps zoned s
    (({ s with poolFree := s.poolFree + stagedUnits (s.context h).staged } : State).releaseHolder (.context h))).trans
    (State.setContext_keeps _ h fun _ => Context.listHolds_free)

theorem State.expire_keeps (h : Handle) : State.Keeps zoned s (s.expire h) := by
  unfold State.expire
  split
  · exact (s.freeContext_keeps h).trans (State.offer_keeps ..)
  · exact .refl zoned s

theorem State.expireDue_keeps (h : Handle) : State.Keeps zoned s (s.expireDue h) := by
  unfold State.expireDue
  split
  · exact s.expire_keeps h
  · exact .refl zoned s

theorem State.releaseJob_keeps (j : Job) : State.Keeps zoned s (s.releaseJob j) := by
  have given : State.Keeps zoned s
      { s with reservedLines := s.reservedLines - j.lines, slotReservations := s.slotReservations - j.slots } := .of_guarded rfl
  unfold State.releaseJob
  cases j.work with
  | commit h => exact given.trans (State.freeContext_keeps _ h)
  | soloWrite => exact .of_release rfl rfl
  | soloDelete => exact .of_release rfl rfl
  | zoneUpdate => exact given
  | reclaimReq => exact given
  | format => exact given

theorem State.offerDone_keeps (j : Job) (result : JobResult) (g : Gen) : State.Keeps zoned s (s.offerDone j result g) :=
  s.offer_keeps ..

theorem State.announceStore_keeps (store : Store) : State.Keeps zoned s (s.announceStore store) :=
  (State.Keeps.of_guarded rfl : State.Keeps zoned s { s with store := store }).trans (State.offerBoth_keeps ..)

theorem State.enterReadOnly_keeps (cause : Cause) : State.Keeps zoned s (s.enterReadOnly cause) := by
  unfold State.enterReadOnly
  split
  · exact s.announceStore_keeps _
  · exact .refl zoned s

theorem State.checkGeneration_keeps (g : Gen) : State.Keeps zoned s (s.checkGeneration g) := by
  unfold State.checkGeneration
  split
  · exact s.enterReadOnly_keeps _
  · exact .refl zoned s

theorem State.engine_keeps (engine : Engine) : State.Keeps zoned s { s with engine := engine } := .of_guarded rfl

theorem State.requestHeader_keeps (x : Sector) (field : HeaderField) (pattern : HeaderLine) :
    State.Keeps zoned s (s.requestHeader x field pattern) := .of_guarded rfl

theorem State.retire_keeps (x : Sector) : State.Keeps zoned s (s.retire x) := by
  refine (s.modSector_keeps x fun r => { r with state := .retired, live := 0, pending := 0, stale := 0 }).trans ?_
  refine State.Keeps.trans ?_ (State.requestHeader_keeps _ x .retired retiredPattern)
  split
  · exact State.enterReadOnly_keeps _ _
  · exact .refl _ _

/-- The engine lets the array go. -/
theorem State.stopped_keeps : State.Keeps zoned s { s with running := none, engine := .idle } := .of_stop rfl rfl

theorem State.endRunning_keeps (r : Running) (result : JobResult) : State.Keeps zoned s (s.endRunning r result) := by
  unfold State.endRunning
  exact (s.abandonPlaced_keeps _).trans <| (State.releaseJob_keeps _ r.job).trans <| (State.stopped_keeps _).trans <|
    (State.offerDone_keeps _ r.job result 0).trans (State.checkGeneration_keeps _ r.generation)

theorem State.endQueued_keeps (jobs : List Job) : State.Keeps zoned s (s.endQueued jobs) := by
  induction jobs generalizing s with
  | nil => exact .refl zoned s
  | cons j rest ih =>
    unfold State.endQueued
    split
    · exact ih s
    · exact (s.releaseJob_keeps j).trans ((State.offerDone_keeps ..).trans (ih _))

theorem State.flushQueue_keeps : State.Keeps zoned s s.flushQueue := by
  unfold State.flushQueue
  split
  · exact (s.endQueued_keeps s.queue).trans (.of_guarded rfl)
  · exact .refl zoned s

theorem State.settle_keeps : State.Keeps zoned s s.settle := by
  refine s.flushQueue_keeps.trans ?_
  unfold State.settle State.pauseIfHeld
  split
  · exact .of_guarded rfl
  · exact .refl _ _

theorem State.notifyChanged_keeps (l : Link) (g : Gen) (images : List Image) : State.Keeps zoned s (s.notifyChanged l g images) := by
  induction images generalizing s with
  | nil => exact .refl zoned s
  | cons i rest ih =>
    unfold State.notifyChanged
    split
    · exact (s.offer_keeps ..).trans (ih _)
    · exact ih s

/-- A switch changes the zone table only for a ZONE_UPDATE (R77). -/
theorem State.switchZones_keeps {work : Work} (zones : work.kind = .zoneUpdate → zoned) : State.Keeps zoned s (s.switchZones work) := by
  cases work with
  | zoneUpdate table => exact ⟨rfl, rfl, id, id, id, id, id, id, .inl (zones rfl)⟩
  | _ => exact .refl zoned s

theorem State.switch_keeps {r : Running} (zones : r.job.work.kind = .zoneUpdate → zoned) : State.Keeps zoned s (s.switch r) := by
  unfold State.switch
  exact (s.switchAll_keeps _).trans <| (State.switchMark_keeps ..).trans <| (State.switchZones_keeps _ zones).trans <|
    (State.releaseJob_keeps _ r.job).trans <| (State.stopped_keeps _).trans <| (State.offerDone_keeps _ r.job .ok r.generation).trans <|
    (State.notifyChanged_keeps _ .link0 r.generation _).trans <| (State.notifyChanged_keeps _ .link1 r.generation _).trans
      (State.checkGeneration_keeps _ r.generation)

/-! ### Images, room and passes -/

/-- A change of the job in progress that leaves its record and its fold. -/
theorem State.modRunning_keeps {f : Running → Running} (job : ∀ r, (f r).job = r.job) (fold : ∀ r, (f r).fold = r.fold) :
    State.Keeps zoned s (s.modRunning f) :=
  .of_running (fun sound r' run folds => by
    obtain ⟨r, before, rfl⟩ := Option.map_eq_some_iff.mp run
    exact job r ▸ sound r before (fold r ▸ folds)) rfl

theorem State.setWriting_keeps (w : Writer) (x : Option Writing) : State.Keeps zoned s (s.setWriting w x) := by
  cases w with
  | host => exact s.modRunning_keeps (fun _ => rfl) (fun _ => rfl)
  | reclaim => exact .of_guarded rfl

theorem State.startImage_keeps (w : Writer) (i : Image) (x : Sector) (cursor : Nat) :
    State.Keeps zoned s (s.startImage w i x cursor) := .of_guarded rfl

theorem State.requestOpen_keeps (w : Writer) (x : Sector) : State.Keeps zoned s (s.requestOpen w x) := .of_guarded rfl

theorem State.placeImage_keeps (w : Writer) (i : Image) {openRequest : State → State}
    (opens : ∀ t, State.Keeps zoned t (openRequest t)) : State.Keeps zoned s (s.placeImage w i openRequest) := by
  unfold State.placeImage
  split
  · split
    · exact s.startImage_keeps ..
    · exact s.requestHeader_keeps ..
  · exact opens s

theorem State.leaveMounting_keeps (store : Store) : State.Keeps zoned s (s.leaveMounting store) :=
  (State.Keeps.of_guarded rfl : State.Keeps zoned s { s with store := store, engine := .idle, mount := none }).trans
    (State.offerBoth_keeps ..)

theorem State.mountEnd_keeps (m : MountRecord) : State.Keeps zoned s (s.mountEnd m) :=
  (s.victimsToFull_keeps _).trans (State.leaveMounting_keeps ..)

theorem State.stopWork_keeps (cause : Cause) (result : JobResult) : State.Keeps zoned s (s.stopWork cause result) := by
  unfold State.stopWork
  split
  · exact s.mountEnd_keeps _
  · refine (s.enterReadOnly_keeps cause).trans ?_
    simp only
    split
    · exact State.endRunning_keeps ..
    · exact .of_guarded rfl

theorem State.keepPass_keeps : State.Keeps zoned s s.keepPass := .of_guarded rfl

theorem State.openForCopy_keeps : State.Keeps zoned s s.openForCopy := by
  unfold State.openForCopy
  split
  · exact s.requestOpen_keeps ..
  · exact s.keepPass_keeps.trans (State.stopWork_keeps ..)

theorem State.roomForCopy_keeps : State.Keeps zoned s s.roomForCopy := by
  unfold State.roomForCopy
  split
  · exact s.placeImage_keeps _ _ State.openForCopy_keeps
  · exact .refl zoned s

theorem State.setPhase_keeps (phase : PassPhase) : State.Keeps zoned s (s.setPhase phase) := .of_guarded rfl

theorem State.startCopy_keeps (i : Image) (source : Loc) : State.Keeps zoned s (s.startCopy i source) :=
  (s.setWriting_keeps ..).trans (State.roomForCopy_keeps _)

/-- What a drop of the walk leads to is a drop of the directory. -/
theorem State.walkStep_drop {s t : State} {h : ImageHeader} {source : Loc} (step : s.walkStep h source = .drop t) :
    s.drop h.key source = some t := by
  unfold State.walkStep at step
  split at step
  · split at step <;> cases step
  · split at step <;> cases step
  · split at step
    · split at step
      · split at step
        · next u dropped => cases step; exact dropped
        · cases step
      · cases step
    · cases step

theorem State.walkImage_keeps (victim : Sector) (c : Nat) : State.Keeps zoned s (s.walkImage victim c) := by
  unfold State.walkImage
  split
  · exact s.setPhase_keeps _
  · split
    · exact s.setPhase_keeps _
    · exact s.setPhase_keeps _
    · split
      · exact s.setPhase_keeps _
      · next step => exact (State.drop_keeps (State.walkStep_drop step)).trans (State.setPhase_keeps ..)
      · exact (s.setPhase_keeps _).trans (State.startCopy_keeps ..)

theorem State.passOn_keeps (p : Pass) : State.Keeps zoned s (s.passOn p) := by
  unfold State.passOn
  split
  · exact .refl zoned s
  · exact s.walkImage_keeps ..
  · exact .of_guarded rfl
  · exact .refl zoned s

theorem State.suspendPass_keeps (engine : Engine) : State.Keeps zoned s (s.suspendPass engine) := .of_guarded rfl

theorem State.arrive_keeps (p : Pass) : State.Keeps zoned s (s.arrive p) := by
  unfold State.arrive
  split
  · exact s.suspendPass_keeps _
  · split
    · exact s.suspendPass_keeps _
    · exact s.passOn_keeps p

theorem State.atBoundary_keeps (p : Pass) (cursor : Nat) : State.Keeps zoned s (s.atBoundary p cursor) :=
  (s.setPhase_keeps _).trans (State.arrive_keeps ..)

theorem State.startPass_keeps (victim : Sector) (mode : PassMode) : State.Keeps zoned s (s.startPass victim mode) := .of_guarded rfl

theorem State.resumePass_keeps (p : Pass) (mode : PassMode) : State.Keeps zoned s (s.resumePass p mode) := by
  have resumed : State.Keeps zoned s { s with pass := some { p with mode := mode, running := true }, engine := .reclaiming mode } :=
    .of_guarded rfl
  unfold State.resumePass
  simp only
  split
  · exact resumed.trans (State.requestHeader_keeps ..)
  · exact resumed.trans (State.passOn_keeps ..)

theorem State.urgentStart_keeps : State.Keeps zoned s s.urgentStart := by
  unfold State.urgentStart
  split
  · exact s.resumePass_keeps ..
  · split
    · exact s.startPass_keeps ..
    · exact s.stopWork_keeps ..

theorem State.endPass_keeps : State.Keeps zoned s s.endPass := .of_guarded rfl

theorem State.chainPass_keeps (victim : Sector) : State.Keeps zoned s (s.chainPass victim) := by
  unfold State.chainPass
  split
  · exact .of_guarded rfl
  · exact s.startPass_keeps ..

theorem State.openForHost_keeps : State.Keeps zoned s s.openForHost := by
  unfold State.openForHost
  split
  · exact s.requestOpen_keeps ..
  · split
    · exact .of_guarded rfl
    · exact s.urgentStart_keeps

theorem State.ensureRoom_keeps : State.Keeps zoned s s.ensureRoom := by
  unfold State.ensureRoom
  split
  · exact s.placeImage_keeps _ _ State.openForHost_keeps
  · exact .refl zoned s

theorem State.beginImage_keeps (i : Image) (source : Option Loc) : State.Keeps zoned s (s.beginImage i source) :=
  (s.setWriting_keeps ..).trans (State.ensureRoom_keeps _)

/-! ### The images of a job, and fold: the events that can come to a switch -/

/-- The zone table may change where a ZONE_UPDATE comes to its switch. -/
theorem State.nextImage_keeps (zones : s.zoneUpdateRunning = true → zoned) : State.Keeps zoned s s.nextImage := by
  unfold State.nextImage
  split
  · exact .refl zoned s
  · next r run =>
    split
    · exact s.beginImage_keeps ..
    · exact s.switch_keeps fun kind => zones (by simp [State.zoneUpdateRunning, run, Job.isZoneUpdate, kind])

/-- A change of the job in progress that leaves its record leaves which job it is. -/
theorem State.modRunning_zoneUpdateRunning {f : Running → Running} (job : ∀ r, (f r).job = r.job) :
    (s.modRunning f).zoneUpdateRunning = s.zoneUpdateRunning := by
  unfold State.zoneUpdateRunning
  cases run : s.running with
  | none => simp [run]
  | some r => simp [run, job]

theorem State.setWriting_zoneUpdateRunning (w : Writer) (x : Option Writing) :
    (s.setWriting w x).zoneUpdateRunning = s.zoneUpdateRunning := by
  cases w with
  | host => exact s.modRunning_zoneUpdateRunning fun _ => rfl
  | reclaim => rfl

theorem State.endFold_keeps (zones : s.zoneUpdateRunning = true → zoned) : State.Keeps zoned s s.endFold := by
  have ended : State.Keeps zoned s { s.modRunning (fun r => { r with fold := none }) with engine := .running } :=
    .of_running (fun _ r run folds => by
      obtain ⟨q, -, rfl⟩ := Option.map_eq_some_iff.mp run
      exact absurd rfl folds) rfl
  exact ended.trans (State.nextImage_keeps _ fun z => zones (by
    rw [← z]
    exact (s.modRunning_zoneUpdateRunning (f := fun r => { r with fold := none }) fun _ => rfl).symm))

theorem State.foldStep_keeps (f : Fold) (zones : s.zoneUpdateRunning = true → zoned) : State.Keeps zoned s (s.foldStep f) := by
  unfold State.foldStep
  split
  · exact s.beginImage_keeps ..
  · exact s.endFold_keeps zones

theorem State.resumeFold_keeps (f : Fold) (zones : s.zoneUpdateRunning = true → zoned) : State.Keeps zoned s (s.resumeFold f) := by
  unfold State.resumeFold
  split
  · exact s.ensureRoom_keeps
  · exact (s.setWriting_keeps ..).trans (State.foldStep_keeps _ f (by rwa [State.setWriting_zoneUpdateRunning]))

/-- A fold that goes on is the fold of the COMMIT in which it stood before. -/
theorem State.foldCopied_keeps {r : Running} {f : Fold} (run : s.running = some r) (fold : r.fold = some f) (x : Writing) (loc : Loc) :
    State.Keeps True s (s.foldCopied f x loc) := by
  unfold State.foldCopied
  split
  · exact .refl _ s
  · next source _ =>
    refine (s.repoint_keeps x.image.key source loc x.image.lines).trans ?_
    have kept : (s.repoint x.image.key source loc x.image.lines).running = some r := by
      obtain ⟨_, -, frame⟩ := s.repoint_frame x.image.key source loc x.image.lines
      rw [frame]
      exact run
    have moved : State.Keeps True (s.repoint x.image.key source loc x.image.lines)
        ((s.repoint x.image.key source loc x.image.lines).modRunning
          (fun r => { r with fold := some { f with nextKey := x.image.key.toNat + 1 } })) :=
      .of_running (fun sound q run' _ => by
        rw [State.modRunning_running, kept] at run'
        obtain rfl := Option.some.inj run'
        exact sound r kept (by simp [fold])) rfl
    refine moved.trans ?_
    simp only
    split
    · exact State.foldStep_keeps _ _ fun _ => trivial
    · exact State.endFold_keeps _ fun _ => trivial

/-- Only a COMMIT writes two or more record images. -/
theorem State.commit_of_two_images {s : State} {work : Work} {g : Gen} (two : 2 ≤ (s.recordImages work g).length) :
    ∃ h, work = .commit h := by
  cases work with
  | commit h => exact ⟨h, rfl⟩
  | _ => simp [State.recordImages] at two

theorem State.beginWriting_keeps {r : Running} (run : s.running = some r) : State.Keeps True s (s.beginWriting r) := by
  unfold State.beginWriting
  split
  · next m _ =>
    split
    · next folds =>
      have commit : ∃ h, r.job.work = .commit h := by
        simp only [State.mustFold, Bool.and_eq_true, decide_eq_true_eq] at folds
        exact State.commit_of_two_images folds.1
      have folding : State.Keeps True s
          { s.modRunning (fun q => { q with fold := some ⟨m.generation, 0⟩ }) with engine := .folding } :=
        .of_running (fun _ q run' _ => by
          obtain ⟨q', before, rfl⟩ := Option.map_eq_some_iff.mp run'
          obtain rfl := Option.some.inj (run.symm.trans before)
          exact commit) rfl
      exact folding.trans (State.foldStep_keeps _ _ fun _ => trivial)
    · exact s.nextImage_keeps fun _ => trivial
  · exact s.nextImage_keeps fun _ => trivial

theorem State.hostImagePassed_keeps {r : Running} (run : s.running = some r) (x : Writing) (loc : Loc) :
    State.Keeps True s (s.hostImagePassed r x loc) := by
  have cleared := s.setWriting_keeps (zoned := True) .host none
  have run' : (s.setWriting .host none).running = some { r with writing := none } := by simp [State.setWriting, run]
  unfold State.hostImagePassed
  split
  · next f fold => exact cleared.trans (State.foldCopied_keeps _ run' (by simpa using fold) x loc)
  · exact cleared.trans <|
      (State.modRunning_keeps _ (f := fun q => { q with placed := q.placed ++ [loc] }) (fun _ => rfl) (fun _ => rfl)).trans
        (State.nextImage_keeps _ fun _ => trivial)

/-! ### The ladder, FORMAT and the start of a job -/

theorem State.ladder_keeps (w : Writer) (n : Nat) : State.Keeps zoned s (s.ladder w n) := by
  have media (r : Running) : State.Keeps zoned s (s.hostMedia r) := (s.enterReadOnly_keeps _).trans (State.endRunning_keeps ..)
  unfold State.ladder
  split
  · exact s.ensureRoom_keeps
  · exact s.roomForCopy_keeps
  · split
    · exact s.requestHeader_keeps ..
    · exact s.openForHost_keeps
  · split
    · exact s.requestHeader_keeps ..
    · exact s.openForCopy_keeps
  · split
    · exact media _
    · exact .refl zoned s
  · exact s.keepPass_keeps.trans (State.stopWork_keeps ..)

theorem State.countFailure_keeps (w : Writer) : State.Keeps zoned s (s.countFailure w) := by
  unfold State.countFailure
  split
  · exact s.setWriting_keeps ..
  · exact .refl zoned s

theorem State.climb_keeps (w : Writer) : State.Keeps zoned s (s.climb w) := by
  unfold State.climb
  split
  · exact s.ladder_keeps ..
  · exact .refl zoned s

theorem State.formatNextSector_keeps (r : Running) : State.Keeps zoned s (s.formatNextSector r) := by
  unfold State.formatNextSector
  split
  · split
    · exact .of_guarded rfl
    · next x _ _ =>
      exact (s.modRunning_keeps (f := fun q => { q with formatNext := x.val + 1 }) (fun _ => rfl) (fun _ => rfl)).trans (.of_guarded rfl)
  · exact (s.announceStore_keeps _).trans (State.endRunning_keeps ..)

theorem State.formatStart_keeps (r : Running) : State.Keeps True s (s.formatStart r) := by
  have cleared : State.Keeps True s { s.staleAll with
      epoch := s.epoch + 1, directory := [], marks := [], zones := Vector.replicate 8 none, pass := none } := by
    rw [State.staleAll_frame]
    generalize s.staleAll.sectors = sectors
    exact ⟨rfl, rfl, id, id, fun _ => List.Pairwise.nil, id, id, id, .inl trivial⟩
  unfold State.formatStart
  exact cleared.trans <| (State.announceStore_keeps ..).trans <|
    (State.Keeps.foldl State.expire_keeps allHandles _).trans (State.formatNextSector_keeps ..)

/-- The record of a job that has just been handed the array (R72). -/
def Job.taken (j : Job) (g : Gen) : Running := ⟨j, g, [], none, none, 0⟩

/-- The state in which a job has just been handed the array (R72). -/
def State.handed (s : State) (rest : List Job) (r : Running) (next : Gen) : State :=
  { s with queue := rest, running := some r, engine := .running, generationNext := next }

theorem State.startJob_of_writes (s : State) {j : Job} (writes : j.work.writes = true) (rest : List Job) :
    s.startJob j rest = (s.handed rest (j.taken s.generationNext) (generationAfter s.generationNext)).beginWriting (j.taken s.generationNext) := by
  unfold State.startJob
  cases work : j.work <;> simp only [work, Work.writes, Bool.false_eq_true] at writes ⊢ <;> rfl

theorem State.startJob_of_format (s : State) {j : Job} (work : j.work = .format) (rest : List Job) :
    s.startJob j rest = (s.handed rest (j.taken 0) s.generationNext).formatStart (j.taken 0) := by
  unfold State.startJob
  simp only [work]
  rfl

theorem State.startJob_of_reclaimReq (s : State) {j : Job} (work : j.work = .reclaimReq) (rest : List Job) :
    s.startJob j rest = (s.handed rest (j.taken 0) s.generationNext).reclaimReqStart (j.taken 0) := by
  unfold State.startJob
  simp only [work]
  rfl

/-- A job takes the array with no fold. -/
theorem State.handed_keeps (rest : List Job) (j : Job) (g next : Gen) : State.Keeps zoned s (s.handed rest (j.taken g) next) :=
  .of_running (fun _ q run folds => by
    obtain rfl := Option.some.inj run
    exact absurd rfl folds) rfl

theorem State.startJob_keeps (j : Job) (rest : List Job) : State.Keeps True s (s.startJob j rest) := by
  by_cases writes : j.work.writes = true
  · rw [s.startJob_of_writes writes]
    exact (s.handed_keeps ..).trans (State.beginWriting_keeps _ rfl)
  · cases work : j.work with
    | format =>
      rw [s.startJob_of_format work]
      exact (s.handed_keeps ..).trans (State.formatStart_keeps ..)
    | reclaimReq =>
      rw [s.startJob_of_reclaimReq work]
      refine (s.handed_keeps rest j 0 s.generationNext).trans ?_
      unfold State.reclaimReqStart
      split
      · exact State.urgentStart_keeps _
      · exact State.endRunning_keeps ..
    | _ => simp [work, Work.writes] at writes

/-! ### Mount -/

theorem State.setMount_keeps (m : MountRecord) : State.Keeps zoned s (s.setMount m) := .of_guarded rfl

theorem State.sweepOn_keeps : State.Keeps zoned s s.sweepOn := by
  have held (t : State) : State.Keeps zoned t t.holdSweep := .of_guarded rfl
  unfold State.sweepOn
  split
  · refine State.Keeps.trans (t := { s with engine := .mounting }) (.of_guarded rfl) ?_
    unfold State.sweepNext
    split
    · split
      · exact held _
      · exact .of_guarded rfl
    · split
      · split
        · exact held _
        · exact .of_guarded rfl
      · split
        · split
          · exact held _
          · exact (State.setMount_keeps ..).trans (State.resumePass_keeps ..)
        · split
          · exact State.mountEnd_keeps ..
          · split
            · exact held _
            · exact State.urgentStart_keeps _
  · exact .refl zoned s

/-- What resolve sets (R118 to R123), with a directory in key order. -/
theorem State.rebuilt_keeps {directory : List DirEntry} (ordered : directory.Pairwise (fun a b => a.key.toNat < b.key.toNat))
    (marks : List MarkEntry) (zones : ZoneTable) (sectors : Vector SectorRecord 32) (epoch q : Word32) (g : Gen) (m : MountRecord) :
    State.Keeps True s { s with
      directory := directory, marks := marks, zones := zones, sectors := sectors, epoch := epoch, openSequenceNext := q
      generationNext := g, mount := some m } :=
  ⟨rfl, rfl, id, id, fun _ => ordered, id, id, id, .inl trivial⟩

theorem State.resolve_keeps (epoch : Word32) : State.Keeps True s (s.resolve epoch) := by
  unfold State.resolve
  simp only
  rw [State.setRecords_frame]
  generalize State.sectors (State.setRecords s _) = sectors
  exact s.rebuilt_keeps (keptEntries_ordered _) ..

theorem State.counted_keeps (sectors : Vector SectorRecord 32) (q : Word32) (g : Gen) :
    State.Keeps zoned s { s with sectors := sectors, openSequenceNext := q, generationNext := g } := .of_guarded rfl

theorem State.mountScan_keeps : State.Keeps True s s.mountScan := by
  unfold State.mountScan
  split
  · unfold State.mountBlank
    rw [State.setRecords_frame]
    generalize State.sectors (State.setRecords s _) = sectors
    exact (s.counted_keeps sectors 1 1).trans (State.leaveMounting_keeps ..)
  · exact (s.resolve_keeps _).trans (State.sweepOn_keeps _)

/-! ### Completions -/

/-- A fold stands in a COMMIT, so a pass that ends in it comes to no ZONE_UPDATE's switch. -/
theorem State.passEnded_keeps (zones : zoned ∨ s.foldsInCommits) : State.Keeps zoned s s.passEnded := by
  unfold State.passEnded
  split
  · exact s.sweepOn_keeps
  · split
    · exact .of_guarded rfl
    · next r run =>
      split
      · exact s.endRunning_keeps ..
      · split
        · next f fold =>
          refine (s.engine_keeps .folding).trans (State.resumeFold_keeps _ f fun update => ?_)
          rcases zones with z | sound
          · exact z
          · obtain ⟨h, commit⟩ := sound r run (by simp [fold])
            simp [State.zoneUpdateRunning, run, Job.isZoneUpdate, commit, Work.kind] at update
        · exact (s.engine_keeps .running).trans (State.ensureRoom_keeps _)

theorem State.copyPassed_keeps (p : Pass) (x : Writing) (loc : Loc) : State.Keeps zoned s (s.copyPassed p x loc) := by
  unfold State.copyPassed
  split
  · exact .refl zoned s
  · refine (s.setWriting_keeps .reclaim none).trans (State.Keeps.trans ?_ (State.atBoundary_keeps ..))
    split
    · exact State.relocateMark_keeps ..
    · exact State.repoint_keeps ..

theorem State.linePassed_keeps (w : Writer) (start : Loc) (n : Nat) : State.Keeps True s (s.linePassed w start n) := by
  unfold State.linePassed
  split
  · exact .refl _ s
  · split
    · exact .of_guarded rfl
    · unfold State.imagePassed
      split
      · split
        · next r run => exact s.hostImagePassed_keeps run ..
        · exact .refl _ s
      · split
        · exact s.copyPassed_keeps ..
        · exact .refl _ s

theorem State.lineFailed_keeps (w : Writer) (start : Loc) (n : Nat) : State.Keeps zoned s (s.lineFailed w start n) := by
  unfold State.lineFailed
  split
  · exact .refl zoned s
  · next x _ =>
    refine (s.modSector_keeps start.sector fun r =>
      { r with pending := r.pending - x.image.lines, stale := r.stale + x.image.lines }).trans ?_
    refine (State.countFailure_keeps _ w).trans ?_
    simp only
    split
    · exact State.requestHeader_keeps ..
    · exact State.climb_keeps ..

theorem State.makeRoom_keeps (w : Writer) : State.Keeps zoned s (s.makeRoom w) := by
  cases w with
  | host => exact s.ensureRoom_keeps
  | reclaim => exact s.roomForCopy_keeps

theorem State.openAgain_keeps (w : Writer) : State.Keeps zoned s (s.openAgain w) := by
  cases w with
  | host => exact s.openForHost_keeps
  | reclaim => exact s.openForCopy_keeps

theorem State.formatOn_keeps : State.Keeps zoned s s.formatOn := by
  unfold State.formatOn
  split
  · exact s.formatNextSector_keeps _
  · exact .refl zoned s

theorem State.victimRetired_keeps (zones : zoned ∨ s.foldsInCommits) : State.Keeps zoned s (s.victimRetired State.passEnded) := by
  unfold State.victimRetired
  split
  · split
    · exact s.chainPass_keeps _
    · exact s.endPass_keeps.trans (State.stopWork_keeps ..)
  · exact s.endPass_keeps.trans (State.passEnded_keeps _ zones)

theorem State.eraseFailed_keeps (x : Sector) (e : Eraser) (zones : zoned ∨ s.foldsInCommits) :
    State.Keeps zoned s (s.eraseFailed x e) := by
  have retired := s.retire_keeps (zoned := zoned) x
  cases e with
  | reclaim => exact retired.trans (State.victimRetired_keeps _ (zones.imp_right retired.folds))
  | format => exact retired.trans (State.formatOn_keeps _)
  | sweep => exact retired.trans (State.sweepOn_keeps _)

theorem State.preparedPassed_keeps (x : Sector) (e : Eraser) (count : Word32) : State.Keeps True s (s.preparedPassed x e count) := by
  refine (s.modSector_keeps x fun _ => ⟨.erased, count, 0, 0, 0⟩).trans ?_
  cases e with
  | reclaim => exact (State.endPass_keeps _).trans (State.passEnded_keeps _ (.inl trivial))
  | format => exact State.formatOn_keeps _
  | sweep => exact State.sweepOn_keeps _

theorem State.headerDone_keeps (x : Sector) (passed : Bool) (field : HeaderField) : State.Keeps True s (s.headerDone x passed field) := by
  have full : State.Keeps True s (s.markFull x) := s.modSector_keeps x _
  unfold State.headerDone
  cases field with
  | openSequence w value =>
    simp only
    split
    · exact (s.modSector_keeps x _).trans (State.makeRoom_keeps ..)
    · exact (s.retire_keeps x).trans (State.openAgain_keeps ..)
  | close w => exact full.trans (State.openAgain_keeps ..)
  | closeFailed w => exact full.trans (State.climb_keeps ..)
  | closeSwept => exact full.trans (State.sweepOn_keeps _)
  | victimMark =>
    simp only [State.victimMarked]
    split
    · exact (s.modSector_keeps x _).trans (State.atBoundary_keeps ..)
    · exact s.modSector_keeps x _
  | preparedBlock e count =>
    simp only
    split
    · exact s.preparedPassed_keeps ..
    · exact s.eraseFailed_keeps x e (.inl trivial)
  | retired => exact .refl _ s

theorem State.passPoints_keeps (n : Nat) : State.Keeps zoned s (s.passPoints n) := by
  induction n generalizing s with
  | zero => exact .refl zoned s
  | succ n ih =>
    unfold State.passPoints
    split
    · exact (s.arrive_keeps _).trans (ih _)
    · exact .refl zoned s

theorem State.caughtUp_keeps : State.Keeps zoned s s.caughtUp := by
  unfold State.caughtUp
  split
  · exact s.passPoints_keeps _
  · exact .refl zoned s

/-! ### The events -/

theorem State.jobStart_keeps : State.Keeps True s s.jobStart := by
  have yielded : State.Keeps True s s.yielded := by
    unfold State.yielded
    split
    · split
      · exact s.arrive_keeps _
      · exact .refl _ s
    · exact .refl _ s
  unfold State.jobStart
  split
  · split
    · exact yielded.trans (State.startJob_keeps ..)
    · exact .refl _ s
  · exact .refl _ s

theorem State.backgroundPassStart_keeps : State.Keeps zoned s s.backgroundPassStart := by
  unfold State.backgroundPassStart
  split
  · split
    · exact s.startPass_keeps ..
    · exact .refl zoned s
  · exact .refl zoned s

theorem State.passResume_keeps : State.Keeps zoned s s.passResume := by
  unfold State.passResume
  split
  · split
    · exact s.resumePass_keeps ..
    · exact .refl zoned s
  · exact .refl zoned s

theorem State.announceSupply_keeps : State.Keeps zoned s s.announceSupply := by
  unfold State.announceSupply
  split
  · exact .refl zoned s
  · exact s.offerBoth_keeps _

theorem State.leavePaused_keeps : State.Keeps zoned s s.leavePaused := by
  unfold State.leavePaused
  split
  · split
    · unfold State.resumeSweep
      split
      · exact s.resumePass_keeps ..
      · exact s.sweepOn_keeps
    · split
      · unfold State.resumeJob
        split
        · exact (s.engine_keeps .running).trans (State.formatNextSector_keeps ..)
        · exact s.urgentStart_keeps
      · exact .of_guarded rfl
  · exact .refl zoned s

theorem State.tick_keeps : State.Keeps zoned s s.tick := by
  refine State.Keeps.foldl (fun t h => ?_) allHandles s
  unfold State.tickContext
  split
  · exact t.expire_keeps h
  · refine t.setContext_keeps h fun list => ?_
    cases same : t.context h <;> rw [same] at list <;> exact list

end Sys2Proof.Machine
end

section
/-! PROOFS. What a link's traffic and a request's service keep: the slots of law L8 through sending, acceptance and replies, and the few things
that a request can do to the state, said once for all request steps (R158 to R162, R169). -/

namespace Sys2Proof.Machine

/-! ### The slots of a link through its traffic (law L8) -/

/-- The part of a link's slot law that outbound frames decide: at most 16 slots are taken, and all are while a JOB_DONE waits. -/
def Framer.roomHolds (f : Framer) : Prop :=
  f.out.length + f.reservations ≤ 16 ∧ (f.backlog ≠ [] → 16 ≤ f.out.length + f.reservations)

theorem Framer.slotsHold_iff (f : Framer) :
    f.slotsHold ↔ f.inService = none ∧ f.reservations = f.fifo.length ∧ f.fifo.length ≤ 4 ∧ f.roomHolds := Iff.rfl

/-- The backlog takes what is free, whatever it was before. -/
theorem Framer.takeFrom_roomHolds {f : Framer} (waiting : List Notice) (room : f.out.length + f.reservations ≤ 16) :
    (f.takeFrom waiting).roomHolds := by
  induction waiting generalizing f with
  | nil => exact ⟨room, fun waits => absurd rfl waits⟩
  | cons n rest ih =>
    unfold Framer.takeFrom
    split
    · next free =>
      refine ih ?_
      simp only [Framer.freeSlots, Config.outboundSlots] at free
      simp only [Framer.enter, List.length_append, List.length_singleton]
      omega
    · next full =>
      simp only [Framer.freeSlots, Config.outboundSlots] at full
      exact ⟨room, fun _ => by change 16 ≤ f.out.length + f.reservations; omega⟩

theorem Framer.byteGone_roomHolds {f : Framer} (h : f.roomHolds) : f.byteGone.roomHolds := by
  unfold Framer.byteGone Framer.depart
  cases out : f.out with
  | nil => exact h
  | cons head rest =>
    simp only
    split
    · have room := h.1
      rw [out, List.length_cons] at room
      exact Framer.takeFrom_roomHolds _ (by change rest.length + f.reservations ≤ 16; omega)
    · rw [← out]
      exact h

theorem Framer.sendByte_slotsHold {f : Framer} (l : Link) (h : f.slotsHold) : (f.sendByte l).slotsHold := by
  obtain ⟨-, fifo, idle, reserved, -, -⟩ := f.sendByte_frame l
  have ⟨wasIdle, wasReserved, places, room⟩ := f.slotsHold_iff.mp h
  exact (Framer.slotsHold_iff _).mpr ⟨idle.trans wasIdle, by rw [reserved, fifo, wasReserved], by rw [fifo]; exact places,
    Framer.byteGone_roomHolds room⟩

theorem Framer.sends_slotsHold {f : Framer} (t : Traffic) (h : f.slotsHold) : (f.sends t).slotsHold := by
  have each : ∀ (n : Nat) {g : Framer}, g.slotsHold → (g.sendBytes t.link n).slotsHold := by
    intro n
    induction n with
    | zero => exact fun h => h
    | succ n ih => exact fun h => ih (Framer.sendByte_slotsHold t.link h)
  exact each t.count (g := { f with wire := [] }) h

/-- Acceptance takes a slot or a reservation only where one is free, and none while a JOB_DONE waits. -/
theorem Framer.accept_slotsHold {f : Framer} (r : Request) (h : f.slotsHold) : (f.accept r).slotsHold := by
  have ⟨idle, reserved, places, room, backlog⟩ := h
  have queued (frame : Frame) (free : 0 < f.freeSlots) : (f.queueFrame frame).slotsHold := by
    simp only [Framer.freeSlots, Config.outboundSlots] at free
    refine ⟨idle, reserved, places, ?_, fun waits => absurd (backlog waits) (by omega)⟩
    simp only [Framer.queueFrame, List.length_append, List.length_singleton]
    omega
  have dropped : f.drop.slotsHold := h
  unfold Framer.accept
  split
  · split
    · next free => exact queued _ free
    · exact dropped
  · split
    · exact h
    · split
      · next free =>
        obtain ⟨place, free, empty⟩ := free
        simp only [Framer.freeSlots, Config.outboundSlots, Config.inboundPlaces] at free place
        refine ⟨idle, ?_, ?_, ?_, fun waits => absurd (List.isEmpty_iff.mp empty) waits⟩ <;>
          simp only [Framer.enqueue, List.length_append, List.length_singleton] <;> omega
      · split
        · next free => exact queued _ free
        · exact dropped

theorem Framer.takeByte_slotsHold {f : Framer} (b : Byte) (h : f.slotsHold) : (f.takeByte b).slotsHold := by
  unfold Framer.takeByte
  split
  · split <;> exact h
  · unfold Framer.headerByte
    split
    · exact h
    · split <;> exact h
    · exact h
    · simp only
      split <;> exact h
  · simp only
    split <;> exact h
  · exact h
  · split
    · exact Framer.accept_slotsHold _ h
    · exact h

theorem Framer.traffic_slotsHold {f : Framer} (t : Traffic) (h : f.slotsHold) : (f.traffic t).slotsHold := by
  have kept {step : Framer → Byte → Framer} (each : ∀ {g : Framer} (b : Byte), g.slotsHold → (step g b).slotsHold) :
      ∀ (rx : List Byte) {g : Framer}, g.slotsHold → (rx.foldl step g).slotsHold := by
    intro rx
    induction rx with
    | nil => exact fun h => h
    | cons b rest ih => exact fun h => ih (each b h)
  cases t with
  | spi rx => exact kept (fun b h => Framer.takeByte_slotsHold b (Framer.sendByte_slotsHold .link0 h)) rx (g := { f with wire := [] }) h
  | uart rx tx => exact kept (fun b h => Framer.takeByte_slotsHold b h) rx (Framer.sends_slotsHold _ h)

theorem Framer.cut_slotsHold {f : Framer} (h : f.slotsHold) : f.cut.slotsHold := by
  unfold Framer.cut
  split <;> exact h

/-- A link moves its traffic. -/
theorem State.move_keeps {zoned : Prop} (s : State) (t : Traffic) {event : Framer → Framer}
    (keeps : ∀ {f : Framer}, f.slotsHold → (event f).slotsHold) : State.Keeps zoned s (s.move t event) := by
  refine s.setLink_keeps t.link fun h => ?_
  dsimp only
  split
  · exact Framer.sends_slotsHold t h
  · exact keeps (Framer.traffic_slotsHold t h)

/-! ### What a request can do (section 10) -/

/-- What the act of a request of link l can lead to from the state in which the request is in service, with the reply it gives. A reply that goes
with any other effect than the restart of an idle timer has a STATUS below 0x10. -/
inductive State.Acted (l : Link) (t : State) : State × Reply → Prop
  | answered (reply : Reply) : t.Acted l (t, reply)
  | touched (b : Byte) (reply : Reply) : t.Acted l (t.touch l b, reply)
  | greeted (mask : BitVec 5) {reply : Reply} (ok : reply.status = .ok) : t.Acted l (t.hello l mask, reply)
  | masked (mask : BitVec 5) : t.Acted l (t.modLink l (fun f => { f with mask := mask }), ⟨.ok, []⟩)
  | watched (keys : List Key) : t.Acted l (t.setWatches l keys, watchReply keys)
  | begun (h : Handle) (timeout : Nat) : t.Acted l (t.setContext h (.opened l timeout 0 []), ⟨.ok, [handleCode h]⟩)
  | staged {b : Byte} {h : Handle} {k : Key} (c : Change) {reply : Reply} (ok : reply.status = .ok) (handle : handleOf b = some h)
      (room : roomStep (t.context h).staged k = none) : t.Acted l ((t.touch l b).stage h k c, reply)
  | unstaged (b : Byte) (h : Handle) (k : Key) {reply : Reply} (ok : reply.status = .ok) : t.Acted l ((t.touch l b).unstage h k, reply)
  | freed (b : Byte) (h : Handle) : t.Acted l ((t.touch l b).freeContext h, ⟨.ok, []⟩)
  | committed (b : Byte) (h : Handle) (ticket : Ticket) : t.Acted l ((t.touch l b).acceptCommit l h, acceptedReply ticket)
  | wrote (k : Key) (value : List Byte) (ticket : Ticket) : t.Acted l (t.acceptWrite l k value, acceptedReply ticket)
  | deleted (k : Key) (ticket : Ticket) : t.Acted l (t.acceptDelete l k, acceptedReply ticket)
  | accepted (work : Work) (lines slots : Nat) (ticket : Ticket) : t.Acted l (t.acceptJob work l lines slots, acceptedReply ticket)

section
variable {l : Link} {t : State}

theorem State.Acted.withFormat {α : Type} {act : α → State × Reply} (acts : ∀ a, t.Acted l (act a)) (parsed : Except Status α) :
    t.Acted l (withFormat parsed t act) := by
  cases parsed with
  | error e => exact .answered _
  | ok a => exact acts a

theorem State.Acted.withChecks {checks : List (Option Status)} {fallback : State} {act : State × Reply}
    (refuses : ∀ e, t.Acted l (fallback, refused e)) (acts : firstRefusal checks = none → t.Acted l act) :
    t.Acted l (withChecks checks fallback act) := by
  unfold Machine.withChecks
  split
  · exact refuses _
  · next passed => exact acts passed

/-- A check that stands in a list that refuses nothing refuses nothing. -/
theorem passed_of_firstRefusal {checks : List (Option Status)} (h : firstRefusal checks = none) {c : Option Status} (mem : c ∈ checks) :
    c = none :=
  List.findSome?_eq_none_iff.mp h c mem

/-- One step of the executor leaves the state as it is, or serves the next request. -/
theorem State.serve_cases (s : State) (row : Row) {act : Link → Request → State → State × Reply}
    (acts : ∀ l r t, State.Acted l t (act l r t)) :
    s.serve row act = s ∨ ∃ l r out, s.nextRequest = some (l, r) ∧ (s.take l r).Acted l out ∧ s.serve row act = out.1.reply l r out.2 := by
  unfold State.serve State.unlessHeld
  split
  · exact .inl rfl
  · dsimp only
    split
    · exact .inl rfl
    · next l r next =>
      split
      · exact .inr ⟨l, r, _, next, acts l r _, rfl⟩
      · exact .inl rfl

theorem State.touch_context_staged (t : State) (l : Link) (b : Byte) (h : Handle) : ((t.touch l b).context h).staged = (t.context h).staged := by
  unfold State.touch
  split
  · unfold State.restartTimer
    split
    · next g o _ _ entries opened =>
      split
      · rw [State.context_setContext]
        split
        · next same => rw [same, opened]; rfl
        · rfl
      · rfl
    · rfl
  · rfl

theorem State.touch_frame (t : State) (l : Link) (b : Byte) : t.touch l b = { t with contexts := (t.touch l b).contexts } := by
  unfold State.touch
  split
  · unfold State.restartTimer
    split
    · split <;> rfl
    · rfl
  · rfl

/-- Every request step serves by an act of one of these kinds. -/
theorem exec_request {c : Instr} (request : isRequest c = true) (s : State) :
    ∃ t, exec c s = .next t ∧
      (t = s ∨ ∃ l r out, s.nextRequest = some (l, r) ∧ (s.take l r).Acted l out ∧ t = out.1.reply l r out.2) := by
  have served (row : Row) {act : Link → Request → State → State × Reply} (acts : ∀ l r t, State.Acted l t (act l r t)) :
      ∃ t, (.next (s.serve row act) : Host.Outcome State Fault Refusal) = .next t ∧
        (t = s ∨ ∃ l r out, s.nextRequest = some (l, r) ∧ (s.take l r).Acted l out ∧ t = out.1.reply l r out.2) :=
    ⟨_, rfl, s.serve_cases row acts⟩
  have plain {l : Link} {t : State} {checks : List (Option Status)} {act : State × Reply} (acts : t.Acted l act) :
      t.Acted l (Machine.withChecks checks t act) := .withChecks (fun _ => .answered _) fun _ => acts
  have touching {l : Link} {t : State} {b : Byte} {checks : List (Option Status)} {act : State × Reply}
      (acts : firstRefusal checks = none → t.Acted l act) : t.Acted l (Machine.withChecks checks (t.touch l b) act) :=
    .withChecks (fun _ => .touched ..) acts
  cases c with
  | hello => exact served .hello fun l r t => .withFormat (fun mask => .greeted mask rfl) _
  | stat wp => exact served .stat fun l r t => .withFormat (fun _ => .answered _) _
  | sectors => exact served .sectors fun l r t => .withFormat (fun _ => .answered _) _
  | linkstat => exact served .linkstat fun l r t => .withFormat (fun _ => .answered _) _
  | readCommitted => exact served .readCommitted fun l r t => .withFormat (fun _ => plain (.answered _)) _
  | readOwn => exact served .readOwn fun l r t => .withFormat (fun _ => touching fun _ => .touched ..) _
  | list => exact served .list fun l r t => .withFormat (fun _ => plain (.answered _)) _
  | write wp => exact served .write fun l r t => .withFormat (fun _ => plain (.wrote ..)) _
  | delete wp => exact served .delete fun l r t => .withFormat (fun _ => plain (.deleted ..)) _
  | begin =>
    refine served .begin fun l r t => .withFormat (fun timeout => plain ?_) _
    unfold State.begin
    split
    · exact .begun ..
    · exact .answered _
  | stage wp =>
    refine served .stage fun l r t => .withFormat (fun p => touching fun passed => ?_) _
    unfold State.stageAt
    split
    · next h handle =>
      refine .staged _ rfl handle ?_
      simpa [State.namedStaged, handle] using passed_of_firstRefusal passed (c := roomStep (t.namedStaged p.1) p.2.1) (by simp [State.stageChecks])
    · exact .touched ..
  | unstage =>
    refine served .unstage fun l r t => .withFormat (fun p => touching fun _ => ?_) _
    unfold State.unstageAt
    split
    · exact .unstaged _ _ _ rfl
    · exact .touched ..
  | commit wp =>
    refine served .commit fun l r t => .withFormat (fun b => touching fun _ => ?_) _
    unfold State.commitAt
    split
    · split
      · exact .freed ..
      · exact .withChecks (fun _ => .touched ..) fun _ => .committed ..
    · exact .touched ..
  | abort =>
    refine served .abort fun l r t => .withFormat (fun b => touching fun _ => ?_) _
    unfold State.abortAt
    split
    · exact .freed ..
    · exact .touched ..
  | txninfo => exact served .txninfo fun l r t => .withFormat (fun _ => touching fun _ => .touched ..) _
  | watchAdd =>
    refine served .watchAdd fun l r t => .withFormat (fun k => plain ?_) _
    unfold State.addWatch
    simp only
    split
    · exact .answered _
    · split
      · exact .watched _
      · exact .answered _
  | watchRemove =>
    refine served .watchRemove fun l r t => .withFormat (fun k => plain ?_) _
    unfold State.removeWatch
    simp only
    split
    · exact .watched _
    · exact .answered _
  | watchClear => exact served .watchClear fun l r t => .withFormat (fun _ => plain (.watched [])) _
  | notices => exact served .notices fun l r t => .withFormat (fun mask => .masked mask) _
  | zones => exact served .zones fun l r t => .withFormat (fun _ => plain (.answered _)) _
  | zoneSetDefine wp => exact served .zoneSetDefine fun l r t => .withFormat (fun _ => plain (.accepted ..)) _
  | zoneSetClear wp => exact served .zoneSetClear fun l r t => .withFormat (fun _ => plain (.accepted ..)) _
  | reclaim => exact served .reclaim fun l r t => .withFormat (fun _ => plain (.accepted ..)) _
  | format => exact served .format fun l r t => .withFormat (fun _ => plain (.accepted ..)) _
  | badType => exact served .badType fun l r t => .answered _
  | _ => simp [isRequest] at request

/-! ### What the service of a request keeps -/

/-- An act changes nothing of the array, the store's tables, the job in progress and the zones. -/
theorem State.Acted.frame {out : State × Reply} (acted : t.Acted l out) :
    out.1.held = t.held ∧ out.1.array = t.array ∧ out.1.directory = t.directory ∧ out.1.running = t.running ∧ out.1.zones = t.zones := by
  have touched (b : Byte) : (t.touch l b).held = t.held ∧ (t.touch l b).array = t.array ∧ (t.touch l b).directory = t.directory
      ∧ (t.touch l b).running = t.running ∧ (t.touch l b).zones = t.zones := by
    rw [State.touch_frame]
    exact ⟨rfl, rfl, rfl, rfl, rfl⟩
  cases acted with
  | greeted mask ok =>
    have aborted (hs : List Handle) : ∀ u : State, (hs.foldl State.freeContext u).held = u.held
        ∧ (hs.foldl State.freeContext u).array = u.array ∧ (hs.foldl State.freeContext u).directory = u.directory
        ∧ (hs.foldl State.freeContext u).running = u.running ∧ (hs.foldl State.freeContext u).zones = u.zones := by
      induction hs with
      | nil => exact fun _ => ⟨rfl, rfl, rfl, rfl, rfl⟩
      | cons h rest ih => exact fun u => ih (u.freeContext h)
    simpa [State.hello, State.modLink] using aborted (t.openContexts l) t
  | masked mask => simp [State.modLink]
  | watched keys => simp [State.setWatches, State.modLink]
  | touched b | staged _ _ _ _ | unstaged b _ _ _ | freed b _ | committed b _ _ => exact touched _
  | _ => exact ⟨rfl, rfl, rfl, rfl, rfl⟩

theorem State.holdsSingle_takeHold {s : State} (single : s.holdsSingle) (k : Key) (h : Holder) : (s.takeHold k h).holdsSingle := by
  rw [State.holdsSingle, State.takeHold_holds]
  refine List.pairwise_append.mpr ⟨single.filter _, List.pairwise_singleton _ _, ?_⟩
  intro a mem b last
  obtain rfl := List.mem_singleton.mp last
  simpa using (List.mem_filter.mp mem).2

/-- An act leaves a key with one holder. -/
theorem State.Acted.holders {out : State × Reply} (acted : t.Acted l out) (single : t.holdsSingle) : out.1.holdsSingle := by
  have touched (b : Byte) : (t.touch l b).holdsSingle := by
    rw [State.touch_frame]
    exact single
  cases acted with
  | greeted mask ok =>
    have aborted := (State.Keeps.foldl (zoned := True) State.freeContext_keeps (t.openContexts l) t).holders single
    simpa [State.hello, State.modLink, State.holdsSingle] using aborted
  | masked mask => simpa [State.modLink, State.holdsSingle] using single
  | watched keys => simpa [State.setWatches, State.modLink, State.holdsSingle] using single
  | touched b => exact touched b
  | staged c ok handle room => exact State.holdsSingle_takeHold (s := { State.touch t l _ with poolFree := _ }) (touched _) _ _
  | unstaged b h k ok => exact (touched b).filter _
  | freed b h => exact (touched b).filter _
  | committed b h ticket => exact touched b
  | wrote k value ticket => exact State.holdsSingle_takeHold (s := { t with poolFree := _ }) single _ _
  | deleted k ticket => exact State.holdsSingle_takeHold single _ _
  | _ => exact single

/-- A list with room for a key holds at most 16 entries with no repeated key after the key's entry has been placed (R27 to R29). -/
theorem placeStaged_listHolds {e : Staged} {entries : List Staged} (bound : entries.length ≤ 16)
    (distinct : entries.Pairwise (fun a b => a.key ≠ b.key)) (room : roomStep entries e.key = none) :
    (placeStaged e entries).length ≤ 16 ∧ (placeStaged e entries).Pairwise (fun a b => a.key ≠ b.key) := by
  unfold placeStaged
  split
  · have key (d : Staged) : (if d.key == e.key then e else d).key = d.key := by
      by_cases same : d.key = e.key <;> simp [same]
    refine ⟨by simpa using bound, List.pairwise_map.mpr ?_⟩
    simpa only [key] using distinct
  · next absent =>
    replace absent := Option.not_isSome_iff_eq_none.mp absent
    have short : entries.length < 16 :=
      Nat.lt_of_not_le fun full => by simp [roomStep, absent, refuseIf, Config.listCapacity, full] at room
    refine ⟨by simp only [List.length_append, List.length_singleton]; exact short, List.pairwise_append.mpr ⟨distinct, List.pairwise_singleton _ _, ?_⟩⟩
    intro a mem b last
    obtain rfl := List.mem_singleton.mp last
    simpa using List.find?_eq_none.mp absent a mem

theorem Context.staged_withStaged {c : Context} {entries : List Staged} :
    (c.withStaged entries).staged = entries ∨ (c.withStaged entries).staged = [] := by
  cases c with
  | free => exact .inr rfl
  | opened => exact .inl rfl
  | committing => exact .inl rfl

theorem Context.withStaged_listHolds {c : Context} {entries : List Staged} (bound : entries.length ≤ 16)
    (distinct : entries.Pairwise (fun a b => a.key ≠ b.key)) : (c.withStaged entries).listHolds := by
  rcases c.staged_withStaged (entries := entries) with same | none
  · rw [Context.listHolds, same]
    exact ⟨bound, distinct⟩
  · rw [Context.listHolds, none]
    exact ⟨Nat.zero_le _, List.Pairwise.nil⟩

/-- An act keeps every staged list. -/
theorem State.Acted.lists {out : State × Reply} (acted : t.Acted l out) (lists : t.listsHold) : out.1.listsHold := by
  have touched (b : Byte) : (t.touch l b).listsHold := fun h => by
    simpa only [Context.listHolds, State.touch_context_staged] using lists h
  have set {u : State} (holds : u.listsHold) (h : Handle) {c : Context} (list : c.listHolds) : (u.setContext h c).listsHold :=
    (u.setContext_keeps (zoned := True) h fun _ => list).lists holds
  cases acted with
  | greeted mask ok =>
    have aborted := (State.Keeps.foldl (zoned := True) State.freeContext_keeps (t.openContexts l) t).lists lists
    simpa [State.hello, State.modLink, State.listsHold, State.context] using aborted
  | masked mask => simpa [State.modLink, State.listsHold, State.context] using lists
  | watched keys => simpa [State.setWatches, State.modLink, State.listsHold, State.context] using lists
  | touched b => exact touched b
  | begun h timeout => exact set lists h ⟨Nat.zero_le _, List.Pairwise.nil⟩
  | @staged b h k c reply ok handle room =>
    have same := t.touch_context_staged l b h
    obtain ⟨bound, distinct⟩ := placeStaged_listHolds (e := ⟨k, c, ((t.touch l b).lookup k).map (·.generation)⟩) (same ▸ (lists h).1)
      (same ▸ (lists h).2) (same ▸ room)
    exact set (u := State.takeHold _ k (.context h)) (touched b) h (Context.withStaged_listHolds bound distinct)
  | unstaged b h k ok =>
    have list := touched b h
    exact set (u := State.releaseKey _ k) (touched b) h
      (Context.withStaged_listHolds (Nat.le_trans (List.length_filter_le _ _) list.1) (list.2.filter _))
  | freed b h => exact ((t.touch l b).freeContext_keeps (zoned := True) h).lists (touched b)
  | committed b h ticket =>
    refine set (touched b) h ?_
    have list := touched b h
    cases same : (t.touch l b).context h <;> rw [same] at list <;> exact list
  | _ => exact lists

theorem State.setLink_attnAgrees {s : State} (agrees : s.attnAgrees) (l : Link) (f : Framer) : (s.setLink l f).attnAgrees := by
  cases l with
  | link0 => rfl
  | link1 => exact agrees

/-- An act leaves ATTN in agreement with LF0's outbound queue. -/
theorem State.Acted.attn {out : State × Reply} (acted : t.Acted l out) (agrees : t.attnAgrees) : out.1.attnAgrees := by
  have touched (b : Byte) : (t.touch l b).attnAgrees := by
    rw [State.touch_frame]
    exact agrees
  cases acted with
  | greeted mask ok =>
    exact State.setLink_attnAgrees ((State.Keeps.foldl (zoned := True) State.freeContext_keeps (t.openContexts l) t).attn agrees) _ _
  | masked mask => exact State.setLink_attnAgrees agrees _ _
  | watched keys => exact State.setLink_attnAgrees agrees _ _
  | touched b | staged _ _ _ _ | unstaged b _ _ _ | freed b _ | committed b _ _ => exact touched _
  | _ => exact agrees

/-- A HELLO keeps no frame that it did not find. -/
theorem Framer.keptFrames_length (f : Framer) : f.keptFrames.length ≤ f.out.length := by
  unfold Framer.keptFrames
  split
  · simp
  · next head rest out =>
    have tail := List.length_filter_le keptByHello rest
    rw [out, List.length_append, List.length_cons]
    split <;> simp <;> omega

/-- What an act leaves of the link's framer while its request is in service: the FIFO, the reservations and the slot law of outbound
frames; of the other link, everything. -/
theorem State.Acted.links {out : State × Reply} (acted : t.Acted l out) :
    out.1.link (otherLink l) = t.link (otherLink l) ∧ (out.1.link l).fifo = (t.link l).fifo
      ∧ (out.1.link l).reservations = (t.link l).reservations ∧ ((t.link l).roomHolds → (out.1.link l).roomHolds) := by
  have unchanged {u : State} (lf0 : u.lf0 = t.lf0) (lf1 : u.lf1 = t.lf1) : u.link (otherLink l) = t.link (otherLink l)
      ∧ (u.link l).fifo = (t.link l).fifo ∧ (u.link l).reservations = (t.link l).reservations
      ∧ ((t.link l).roomHolds → (u.link l).roomHolds) := by
    cases l <;> simp [State.link, otherLink, lf0, lf1]
  have touched (b : Byte) : (t.touch l b).lf0 = t.lf0 ∧ (t.touch l b).lf1 = t.lf1 := by
    rw [State.touch_frame]
    exact ⟨rfl, rfl⟩
  cases acted with
  | greeted mask ok =>
    have aborted (hs : List Handle) : ∀ u : State, (hs.foldl State.freeContext u).lf0 = u.lf0
        ∧ (hs.foldl State.freeContext u).lf1 = u.lf1 := by
      induction hs with
      | nil => exact fun _ => ⟨rfl, rfl⟩
      | cons h rest ih => exact fun u => ih (u.freeContext h)
    obtain ⟨lf0, lf1⟩ := aborted (t.openContexts l) t
    obtain ⟨other, -⟩ := unchanged lf0 lf1
    have own : ((t.openContexts l).foldl State.freeContext t).link l = t.link l := by cases l <;> simp [State.link, lf0, lf1]
    obtain ⟨-, fifo, -, reserved, -⟩ := ({ t.link l with
      watches := [], out := (t.link l).keptFrames, sequence := 0, lost := 0, mask := mask, retry := none } : Framer).takeFrom_frame
        (t.link l).backlog
    simp only [State.hello, State.modLink, State.link_setLink_other, State.link_setLink_same, own]
    exact ⟨other, fifo, reserved, fun room => Framer.takeFrom_roomHolds _ (Nat.le_trans
      (Nat.add_le_add_right (t.link l).keptFrames_length _) room.1)⟩
  | masked mask => simp [State.modLink, Framer.roomHolds]
  | watched keys => simp [State.setWatches, State.modLink, Framer.roomHolds]
  | touched b | staged _ _ _ _ | unstaged b _ _ _ | freed b _ | committed b _ _ => exact unchanged (touched _).1 (touched _).2
  | _ => exact unchanged rfl rfl

theorem State.nextRequest_some {s : State} {l : Link} {r : Request} (h : s.nextRequest = some (l, r)) :
    ∃ rest, (s.link l).fifo = r :: rest := by
  unfold State.nextRequest at h
  split at h
  · cases h
  · split at h
    · next fifo => cases h; exact ⟨_, fifo⟩
    · cases h

/-- The reply takes a slot in place of its reservation. -/
theorem Framer.reply_slotsHold {f : Framer} (r : Request) (frame : Frame) (reserved : f.reservations = f.fifo.length + 1)
    (places : f.fifo.length ≤ 4) (room : f.roomHolds) : (f.reply r frame).slotsHold := by
  obtain ⟨bound, backlog⟩ := room
  refine ⟨rfl, ?_, places, ?_, fun waits => ?_⟩
  · simp [Framer.reply, reserved]
  · simp only [Framer.reply, List.length_append, List.length_singleton]
    omega
  · have := backlog waits
    simp only [Framer.reply, List.length_append, List.length_singleton]
    omega

/-- Law L8 through the service of a request. -/
theorem State.served_slotsHold {s : State} {l : Link} {r : Request} {out : State × Reply} (next : s.nextRequest = some (l, r))
    (acted : (s.take l r).Acted l out) (slots : s.slotsHold) : (out.1.reply l r out.2).slotsHold := by
  obtain ⟨rest, fifo⟩ := State.nextRequest_some next
  obtain ⟨other, fifo', reserved', room'⟩ := acted.links
  have each (m : Link) : (s.link m).slotsHold := match m with
    | .link0 => slots.1
    | .link1 => slots.2
  have own : (s.take l r).link l = { s.link l with fifo := (s.link l).fifo.tail, inService := some r } := by cases l <;> rfl
  have untaken : (s.take l r).link (otherLink l) = s.link (otherLink l) := by cases l <;> rfl
  obtain ⟨-, reserved, places, room⟩ := (Framer.slotsHold_iff _).mp (each l)
  rw [own] at fifo' reserved' room'
  simp only [fifo, List.tail_cons, List.length_cons] at fifo' reserved places
  have replied : ((out.1.reply l r out.2).link l).slotsHold := by
    simp only [State.reply, State.modLink, State.link_setLink_same]
    exact Framer.reply_slotsHold r _ (by rw [reserved', fifo', reserved]) (by rw [fifo']; omega) (room' room)
  have kept : ((out.1.reply l r out.2).link (otherLink l)).slotsHold := by
    simp only [State.reply, State.modLink, State.link_setLink_other, other, untaken]
    exact each _
  cases l with
  | link0 => exact ⟨replied, kept⟩
  | link1 => exact ⟨kept, replied⟩

/-- The service of a request keeps every invariant. -/
theorem State.served_keeps {s : State} {l : Link} {r : Request} {out : State × Reply} {zoned : Prop}
    (next : s.nextRequest = some (l, r)) (acted : (s.take l r).Acted l out) : State.Keeps zoned s (out.1.reply l r out.2) := by
  obtain ⟨held, array, directory, running, zones⟩ := acted.frame
  refine ⟨?held, ?array, State.served_slotsHold next acted, fun attn => ?attn, fun order => ?order, fun single => ?single,
    fun lists => ?lists, fun folds => ?folds, .inr ?zones⟩
  case held => simp [State.reply, State.modLink, held]
  case array => simp [State.reply, State.modLink, array]
  case order => simpa [State.reply, State.modLink, State.directoryOrdered, directory] using order
  case folds => simpa [State.reply, State.modLink, State.foldsInCommits, running] using folds
  case zones => simp [State.reply, State.modLink, zones]
  case single =>
    have kept := acted.holders (by simpa [State.holdsSingle] using single)
    simpa [State.reply, State.modLink, State.holdsSingle] using kept
  case lists =>
    have kept := acted.lists (by simpa [State.listsHold] using lists)
    simpa [State.reply, State.modLink, State.listsHold, State.context] using kept
  case attn => exact State.setLink_attnAgrees (acted.attn (State.setLink_attnAgrees attn l _)) l _

end

end Sys2Proof.Machine
end

section
/-! PROOFS. What every step keeps: the invariants through each command of the table and through a step that finds no command, and the commands that
alone change the array and the zone table. -/

namespace Sys2Proof.Machine

/-! ### Commands -/

theorem State.unlessHeld_keeps {zoned : Prop} {f : State → State} (s : State) (keeps : ∀ t, State.Keeps zoned t (f t)) :
    State.Keeps zoned s (s.unlessHeld f) := by
  unfold State.unlessHeld
  split
  · exact .refl zoned s
  · exact keeps s

theorem State.released_of_not_held {s : State} {f : State → State} (released : s.held = false) : s.unlessHeld f = f s := by
  simp [State.unlessHeld, released]

theorem State.unlessHeld_of_held {s : State} {f : State → State} (held : s.held = true) : s.unlessHeld f = s := by
  simp [State.unlessHeld, held]

/-- What a command leads to; every command has a next state. -/
theorem exec_next (c : Instr) (s : State) : ∃ t, exec c s = .next t := by
  cases c <;> exact ⟨_, rfl⟩

/-- Every command but the completions, a reset and its release keeps the invariants and the array, and the zone table but for JOB_START. -/
theorem exec_keeps {c : Instr} {s t : State} (array : touchesArray c = false) (zones : touchesZones c = false ∨ c = .jobStart)
    (next : exec c s = .next t) : State.Keeps (c = .jobStart) s t := by
  have link {traffic : Traffic} {event : Framer → Framer} (keeps : ∀ {f : Framer}, f.slotsHold → (event f).slotsHold)
      (next : Host.Outcome.next (s.move traffic event) = (.next t : Host.Outcome State Fault Refusal)) {z : Prop} : State.Keeps z s t := by
    cases next
    exact s.move_keeps traffic keeps
  have settled {z : Prop} {f : State → State} (keeps : ∀ t, State.Keeps z t (f t))
      (next : Host.Outcome.next (s.unlessHeld fun u => (f u).settle) = (.next t : Host.Outcome State Fault Refusal)) :
      State.Keeps z s t := by
    cases next
    exact s.unlessHeld_keeps fun u => (keeps u).trans (State.settle_keeps _)
  by_cases request : isRequest c = true
  · obtain ⟨u, done, cases⟩ := exec_request request s
    obtain rfl : u = t := by rw [done] at next; cases next; rfl
    rcases cases with rfl | ⟨l, r, out, nextRequest, acted, rfl⟩
    · exact .refl _ _
    · exact State.served_keeps nextRequest acted
  · cases c with
    | frameReceived port rx last => exact link id next
    | frameAbandoned port rx last => exact link id next
    | frameSent traffic => exact link id next
    | csRise rx bits => exact link Framer.cut_slotsHold next
    | uartFramingError rx tx => exact link Framer.cut_slotsHold next
    | gapTimerExpiry rx tx => exact link Framer.cut_slotsHold next
    | supplyLow =>
      cases next
      refine s.unlessHeld_keeps fun u => ?_
      split
      · exact State.Keeps.trans (t := { u with supply := .low }) (.of_guarded rfl)
          ((State.announceSupply_keeps _).trans (State.settle_keeps _))
      · exact .refl _ _
    | supplyNormal =>
      cases next
      refine s.unlessHeld_keeps fun u => ?_
      split
      · exact State.Keeps.trans (t := { u with supply := .normal }) (.of_guarded rfl)
          ((State.announceSupply_keeps _).trans ((State.leavePaused_keeps _).trans (State.settle_keeps _)))
      · exact .refl _ _
    | idleTimerExpiry h =>
      cases next
      exact s.unlessHeld_keeps fun u => u.expireDue_keeps h
    | jobStart => exact settled (fun u => by simpa using u.jobStart_keeps) next
    | backgroundPassStart => exact settled State.backgroundPassStart_keeps next
    | passResume => exact settled State.passResume_keeps next
    | lineProgramDone | sectorEraseDone | reset => simp [touchesArray] at array
    | resetRelease => simp [touchesZones] at zones
    | _ => simp [isRequest] at request

/-! ### Completions of array operations -/

/-- A completed operation leaves the array in canonical form. -/
theorem State.lineCompleted_array {s t : State} {readback : LineReadback} (done : s.lineCompleted readback = some t) :
    ∃ (rest : List ArrayOp) (a : CellArray), (s.array.cells.wf = true → a.cells.wf = true) ∧ State.Keeps True (s.popOp rest a) t := by
  unfold State.lineCompleted at done
  split at done
  · next w start n _ expected rest _ =>
    obtain rfl := Option.some.inj done
    refine ⟨rest, _, fun wf => CellArray.writeLine_keeps_wf wf ⟨start.sector, start.line + n⟩
      (contentAfter readback (s.array.readLine ⟨start.sector, start.line + n⟩) expected), ?_⟩
    split
    · exact State.linePassed_keeps ..
    · exact State.lineFailed_keeps ..
  · next x field _ expected rest _ =>
    obtain rfl := Option.some.inj done
    exact ⟨rest, s.array.writeHeader x (contentAfter readback s.array.headers[x] expected), id, State.headerDone_keeps ..⟩
  · cases done

theorem State.eraseCompleted_array {s t : State} {readback : EraseReadback} (done : s.eraseCompleted readback = some t) :
    ∃ (rest : List ArrayOp) (a : CellArray), (s.array.cells.wf = true → a.cells.wf = true)
      ∧ State.Keeps (¬ s.foldsInCommits) (s.popOp rest a) t := by
  unfold State.eraseCompleted at done
  split at done
  · next x e rest _ =>
    split at done
    · obtain rfl := Option.some.inj done
      refine ⟨rest, s.array.afterErase x readback, fun wf => ?_, ?_⟩
      · cases readback with
        | asExpected => exact CellArray.eraseSector_keeps_wf wf x
        | reads content => exact CellArray.writeSector_keeps_wf wf x content
      · unfold State.eraseVerified
        simp only
        split
        · unfold State.erasePassed
          cases e <;> exact .of_guarded rfl
        · exact State.eraseFailed_keeps _ x e (Classical.em _).symm
    · cases done
  · cases done

/-- The operation that has completed leaves the sector manager: the array has a new content and nothing else that is guarded changes. -/
theorem State.popOp_keeps {zoned : Prop} (s : State) (rest : List ArrayOp) (a : CellArray) :
    State.Keeps zoned s { s.popOp rest a with array := s.array } := .of_guarded rfl

/-- What a step keeps. -/
structure State.KeepsInvariants (s t : State) : Prop where
  slots : s.slotsHold → t.slotsHold
  attn : s.attnAgrees → t.attnAgrees
  order : s.directoryOrdered → t.directoryOrdered
  holders : s.holdsSingle → t.holdsSingle
  lists : s.listsHold → t.listsHold
  folds : s.foldsInCommits → t.foldsInCommits
  canonical : s.arrayCanonical → t.arrayCanonical

/-- What a command other than RESET keeps: the invariants, and the reset released. -/
structure State.StepKeeps (s t : State) : Prop extends State.KeepsInvariants s t where
  held : s.held = false → t.held = false

theorem State.Keeps.stepKeeps {zoned : Prop} {s t : State} (h : State.Keeps zoned s t) : State.StepKeeps s t where
  slots := h.slots
  attn := h.attn
  order := h.order
  holders := h.holders
  lists := h.lists
  folds := h.folds
  canonical wf := by rw [State.arrayCanonical, h.array]; exact wf
  held := h.held.trans

theorem State.StepKeeps.trans {s t u : State} (h : State.StepKeeps s t) (g : State.StepKeeps t u) : State.StepKeeps s u where
  slots := g.slots ∘ h.slots
  attn := g.attn ∘ h.attn
  order := g.order ∘ h.order
  holders := g.holders ∘ h.holders
  lists := g.lists ∘ h.lists
  folds := g.folds ∘ h.folds
  canonical := g.canonical ∘ h.canonical
  held := g.held ∘ h.held

/-- The operation at the head leaves the sector manager with a new content of the array. -/
theorem State.popOp_stepKeeps (s : State) (rest : List ArrayOp) {a : CellArray} (wf : s.array.cells.wf = true → a.cells.wf = true) :
    State.StepKeeps s (s.popOp rest a) :=
  ⟨⟨id, id, id, id, id, id, wf⟩, id⟩

theorem State.lineProgramDone_stepKeeps (s : State) (readback : LineReadback) : State.StepKeeps s (s.lineProgramDone readback) := by
  unfold State.lineProgramDone
  cases done : s.caughtUp.lineCompleted readback with
  | none => exact (State.Keeps.refl True s).stepKeeps
  | some t =>
    obtain ⟨rest, a, wf, keeps⟩ := State.lineCompleted_array done
    exact (s.caughtUp_keeps (zoned := True)).stepKeeps.trans ((State.popOp_stepKeeps _ rest wf).trans keeps.stepKeeps)

theorem State.sectorEraseDone_stepKeeps (s : State) (readback : EraseReadback) : State.StepKeeps s (s.sectorEraseDone readback) := by
  unfold State.sectorEraseDone
  cases done : s.caughtUp.eraseCompleted readback with
  | none => exact (State.Keeps.refl True s).stepKeeps
  | some t =>
    obtain ⟨rest, a, wf, keeps⟩ := State.eraseCompleted_array done
    exact (s.caughtUp_keeps (zoned := True)).stepKeeps.trans ((State.popOp_stepKeeps _ rest wf).trans keeps.stepKeeps)

theorem State.unlessHeld_stepKeeps {f : State → State} (s : State) (keeps : ∀ t, State.StepKeeps t (f t)) :
    State.StepKeeps s (s.unlessHeld f) := by
  unfold State.unlessHeld
  split
  · exact (State.Keeps.refl True s).stepKeeps
  · exact keeps s

/-- Every command but RESET keeps the invariants; no command but RESET holds the reset. -/
theorem exec_stepKeeps {c : Instr} {s t : State} (other : ∀ torn left, c ≠ .reset torn left) (next : exec c s = .next t) :
    State.StepKeeps s t := by
  cases c with
  | lineProgramDone readback =>
    cases next
    exact s.unlessHeld_stepKeeps fun u => (u.lineProgramDone_stepKeeps readback).trans (State.settle_keeps (zoned := True) _).stepKeeps
  | sectorEraseDone readback =>
    cases next
    exact s.unlessHeld_stepKeeps fun u => (u.sectorEraseDone_stepKeeps readback).trans (State.settle_keeps (zoned := True) _).stepKeeps
  | resetRelease supply rate =>
    cases next
    split
    · have released : State.StepKeeps s { s with held := false, supply := supply, uartRate := rate } :=
        ⟨⟨id, id, id, id, id, id, id⟩, fun _ => rfl⟩
      exact released.trans ((State.mountScan_keeps _).trans (State.settle_keeps _)).stepKeeps
    · exact (State.Keeps.refl True s).stepKeeps
  | reset torn left => exact absurd rfl (other torn left)
  | jobStart => exact (exec_keeps rfl (.inr rfl) next).stepKeeps
  | _ => exact (exec_keeps rfl (.inl rfl) next).stepKeeps

/-! ### Reset (R143) -/

theorem exec_reset (torn : HeaderLine) (left : SectorContent) (s : State) :
    exec (.reset torn left) s = .next (State.resetWith (s.array.cutOff torn left s.ops) s.pending) := rfl

theorem Framer.reset_slotsHold : Framer.reset.slotsHold :=
  ⟨rfl, rfl, Nat.zero_le _, Nat.zero_le _, fun waits => absurd rfl waits⟩

theorem State.resetWith_context (a : CellArray) (cs : List Instr) (h : Handle) : (State.resetWith a cs).context h = .free := by
  simp [State.resetWith, State.context]

/-- The state that a reset leaves meets every invariant but the array's, which is that of the array it keeps. -/
theorem State.resetWith_invariants (s : State) {a : CellArray} (wf : s.array.cells.wf = true → a.cells.wf = true) (cs : List Instr) :
    State.KeepsInvariants s (State.resetWith a cs) where
  slots _ := ⟨Framer.reset_slotsHold, Framer.reset_slotsHold⟩
  attn _ := rfl
  order _ := List.Pairwise.nil
  holders _ := List.Pairwise.nil
  lists _ h := by
    rw [State.resetWith_context]
    exact Context.listHolds_free
  folds _ r run := by cases run
  canonical := wf

theorem CellArray.cutOff_keeps_wf {a : CellArray} (wf : a.cells.wf = true) (torn : HeaderLine) (left : SectorContent)
    (ops : List ArrayOp) : (a.cutOff torn left ops).cells.wf = true := by
  unfold CellArray.cutOff
  split
  · exact wf
  · exact CellArray.writeLine_keeps_wf wf ..
  · exact wf
  · exact CellArray.writeSector_keeps_wf wf ..

/-! ### Steps -/

/-- A step is a command on the state with the rest of the queue, or, where none waits, an event that keeps everything but a ZONE_UPDATE's
zone table. -/
theorem step_cases {s t : State} (next : step s = .next t) :
    (∃ c rest, s.pending = c :: rest ∧ exec c (s.withPending rest) = .next t) ∨ (s.pending = [] ∧ t = s.quiet) := by
  unfold step at next
  split at next
  · next empty => cases next; exact .inr ⟨empty, rfl⟩
  · next c rest front => exact .inl ⟨c, rest, front, next⟩

theorem State.quiet_keeps (s : State) : State.Keeps True s s.quiet := by
  refine s.unlessHeld_keeps fun u => ?_
  split
  · exact (u.arrive_keeps _).trans (State.settle_keeps _)
  · exact u.tick_keeps

theorem State.withPending_stepKeeps (s : State) (cs : List Instr) : State.StepKeeps s (s.withPending cs) :=
  ⟨⟨id, id, id, id, id, id, id⟩, id⟩

/-- A step keeps the invariants, or it takes RESET. -/
theorem step_keeps {s t : State} (next : step s = .next t) :
    State.StepKeeps s t ∨ ∃ a cs, (s.array.cells.wf = true → a.cells.wf = true) ∧ t = State.resetWith a cs := by
  rcases step_cases next with ⟨c, rest, -, done⟩ | ⟨-, rfl⟩
  · by_cases reset : ∃ torn left, c = .reset torn left
    · obtain ⟨torn, left, rfl⟩ := reset
      cases done
      exact .inr ⟨_, _, fun wf => CellArray.cutOff_keeps_wf wf torn left s.ops, rfl⟩
    · have other (torn left) : c ≠ .reset torn left := fun same => reset ⟨torn, left, same⟩
      exact .inl ((s.withPending_stepKeeps rest).trans (exec_stepKeeps other done))
  · exact .inl s.quiet_keeps.stepKeeps

theorem step_invariants {s t : State} (next : step s = .next t) : State.KeepsInvariants s t := by
  rcases step_keeps next with keeps | ⟨a, cs, wf, rfl⟩
  · exact keeps.toKeepsInvariants
  · exact s.resetWith_invariants wf cs

/-- Settles O4: an offer, an acceptance or a departure takes a slot only where one is free, and a reply takes its reservation's. -/
theorem stepKeepsLinkSlots : Obligations.StepKeepsLinkSlots :=
  fun _ _ holds next => (step_invariants next).slots holds

/-- Settles O5: the framer of LF0 is set with ATTN alone. -/
theorem stepKeepsAttn : Obligations.StepKeepsAttn :=
  fun _ _ holds next => (step_invariants next).attn holds

/-- Settles O6: entries are inserted in key order, taken out, or rebuilt from winners in key order. -/
theorem stepKeepsDirectoryOrder : Obligations.StepKeepsDirectoryOrder :=
  fun _ _ holds next => (step_invariants next).order holds

/-- Settles O7: a hold that is taken replaces the one its key had. -/
theorem stepKeepsSingleHolders : Obligations.StepKeepsSingleHolders :=
  fun _ _ holds next => (step_invariants next).holders holds

/-- Settles O8: STAGE replaces the entry of its key or appends one where the list has room. -/
theorem stepKeepsStagedLists : Obligations.StepKeepsStagedLists :=
  fun _ _ holds next => (step_invariants next).lists holds

/-- Settles O9: only a job of two or more record images folds, and a fold that goes on stays in its job. -/
theorem stepKeepsFoldsInCommits : Obligations.StepKeepsFoldsInCommits :=
  fun _ _ holds next => (step_invariants next).folds holds

/-- Settles O10: the array is written byte by byte, in canonical form. -/
theorem stepKeepsArrayCanonical : Obligations.StepKeepsArrayCanonical :=
  fun _ _ holds next => (step_invariants next).canonical holds

theorem State.reset_listsHold : State.reset.listsHold := fun h => by
  rw [State.reset, State.resetWith_context]
  exact Context.listHolds_free

/-- Settles O3: the state after reset is what a reset leaves of the blank array. -/
theorem resetMeetsTheInvariants : Obligations.ResetMeetsTheInvariants :=
  ⟨⟨Framer.reset_slotsHold, Framer.reset_slotsHold⟩, rfl, List.Pairwise.nil, List.Pairwise.nil, State.reset_listsHold,
    fun _ run => (nomatch run), State.reset_array_wf, fun _ => rfl⟩

/-- Settles O1: the queue's front command is executed on the state with the queue's rest. -/
theorem stepRunsFrontCommand : Obligations.StepRunsFrontCommand := by
  intro s c rest front
  simp only [step, front]
  rfl

/-- Settles O20: a reset leaves the reset values whatever the state was. -/
theorem resetClearsWorkingMemory : Obligations.ResetClearsWorkingMemory := by
  intro torn left s
  refine ⟨_, exec_reset torn left s, rfl, rfl, rfl, rfl, rfl, State.resetWith_context _ _, rfl, rfl, rfl, rfl, rfl, rfl, rfl, rfl, rfl,
    fun x => ?_, rfl, rfl, rfl, fun i => ?_, rfl, rfl, rfl, rfl, rfl, rfl⟩
  · simp [State.resetWith, SectorRecord.reset]
  · simp [State.resetWith]

/-- Settles O12: the array has a new content only where an operation leaves the sector manager. -/
theorem arrayChangesOnlyAtItsOperations : Obligations.ArrayChangesOnlyAtItsOperations := by
  intro c s t untouched next
  cases c with
  | resetRelease supply rate =>
    cases next
    split
    · exact ((State.mountScan_keeps _).trans (State.settle_keeps _)).array
    · rfl
  | jobStart => exact (exec_keeps untouched (.inr rfl) next).array
  | lineProgramDone | sectorEraseDone | reset => simp [touchesArray] at untouched
  | _ => exact (exec_keeps untouched (.inl rfl) next).array

/-- Settles O13: an erase that ends a pass nested in a fold goes on with a COMMIT, whose switch leaves the zone table. -/
theorem zonesChangeOnlyAtTheirEvents : Obligations.ZonesChangeOnlyAtTheirEvents := by
  intro c s t sound untouched next
  cases c with
  | sectorEraseDone readback =>
    cases next
    unfold State.unlessHeld
    split
    · rfl
    · have completed : (s.sectorEraseDone readback).zones = s.zones := by
        have caughtUp := s.caughtUp_keeps (zoned := False)
        unfold State.sectorEraseDone
        cases done : s.caughtUp.eraseCompleted readback with
        | none => rfl
        | some t =>
          obtain ⟨rest, a, -, keeps⟩ := State.eraseCompleted_array done
          have kept : t.zones = s.caughtUp.zones := keeps.zones.resolve_left (not_not_intro (caughtUp.folds sound))
          exact kept.trans (caughtUp.zones.resolve_left id)
      exact ((State.settle_keeps (zoned := False) _).zones.resolve_left id).trans completed
  | jobStart | lineProgramDone | reset | resetRelease => simp [touchesZones] at untouched
  | _ => exact (exec_keeps rfl (.inl untouched) next).zones.resolve_left (by simp)

/-! ### While reset is held (R143, R164) -/

/-- The reset values with other bytes on the pins. -/
def State.atRest (s : State) : State :=
  { State.resetWith s.array s.pending with
    lf0 := { Framer.reset with wire := s.lf0.wire }
    lf1 := { Framer.reset with wire := s.lf1.wire } }

theorem State.heldAtRest_iff (s : State) : s.heldAtRest ↔ (s.held = true → s = s.atRest) := Iff.rfl

/-- The traffic of a link at rest moves its pins alone. -/
theorem State.move_atRest {s : State} (held : s.held = true) (rest : s = s.atRest) (t : Traffic) (event : Framer → Framer) :
    s.move t event = (s.move t event).atRest := by
  have empty : (s.link t.link).out = [] := by
    rw [rest]
    cases t.link <;> rfl
  obtain ⟨wire, sends⟩ := Framer.sends_of_empty empty t
  have moved : s.move t event = s.setLink t.link { s.link t.link with wire := wire } := by
    simp only [State.move, State.modLink, held, if_true, sends]
  rw [moved, rest]
  cases t.link <;> rfl

/-- While reset is held a command acts only as a link's traffic, as RESET or as its release. -/
theorem exec_of_held {c : Instr} {s t : State} (held : s.held = true) (next : exec c s = .next t) :
    t = s ∨ (∃ traffic event, t = s.move traffic event) ∨ (∃ a cs, t = State.resetWith a cs) ∨ t.held = false := by
  have still {f : State → State} : s.unlessHeld f = s := State.unlessHeld_of_held held
  cases c with
  | frameReceived | frameAbandoned | frameSent | csRise | uartFramingError | gapTimerExpiry =>
    cases next
    exact .inr (.inl ⟨_, _, rfl⟩)
  | reset =>
    cases next
    exact .inr (.inr (.inl ⟨_, _, rfl⟩))
  | resetRelease supply rate =>
    cases next
    rw [if_pos held]
    exact .inr (.inr (.inr ((State.mountScan_keeps _).trans (State.settle_keeps _)).held))
  | _ =>
    cases next
    exact .inl still

/-- Settles O11: with reset held a step moves a link's pins, resets again, ends the hold, or changes nothing. -/
theorem stepKeepsResetValuesWhileHeld : Obligations.StepKeepsResetValuesWhileHeld := by
  intro s t rest next heldAfter
  rcases step_cases next with ⟨c, cs, front, done⟩ | ⟨empty, rfl⟩
  · cases held : s.held with
    | false =>
      rcases step_keeps next with keeps | ⟨a, ds, -, rfl⟩
      · exact absurd heldAfter (by simp [keeps.held held])
      · rfl
    | true =>
      have atRest : s.withPending cs = (s.withPending cs).atRest := by
        have := rest held
        rw [this]
        rfl
      rcases exec_of_held (s := s.withPending cs) held done with rfl | ⟨traffic, event, rfl⟩ | ⟨a, ds, rfl⟩ | released
      · exact atRest
      · exact State.move_atRest (s := s.withPending cs) held atRest traffic event
      · rfl
      · simp [released] at heldAfter
  · have held : s.held = true := s.quiet_keeps.held ▸ heldAfter
    rw [State.quiet, State.unlessHeld_of_held held]
    exact rest held

/-! ### Refused requests (R169) -/

/-- The staged lists of a state in which a request has restarted a timer are those before. -/
theorem State.touch_staged (t : State) (l : Link) (b : Byte) (h : Handle) : ((t.touch l b).context h).staged = (t.context h).staged :=
  t.touch_context_staged l b h

/-- An act that answers with a refusal has at most restarted an idle timer. -/
theorem State.Acted.refused {l : Link} {t : State} {out : State × Reply} (acted : t.Acted l out) (high : 0x10 ≤ out.2.status.code.toNat) :
    out.1 = t ∨ ∃ b, out.1 = t.touch l b := by
  have low {status : Status} (ok : status = .ok) (high : 0x10 ≤ status.code.toNat) : False := by
    rw [ok] at high
    simp [Status.code] at high
  cases acted with
  | answered reply => exact .inl rfl
  | touched b reply => exact .inr ⟨b, rfl⟩
  | greeted mask ok | staged _ ok _ _ | unstaged _ _ _ ok => exact (low ok high).elim
  | masked | watched | begun | freed => exact (low rfl high).elim
  | committed | wrote | deleted | accepted => simp [acceptedReply, Status.code] at high

/-- Settles O14: the reply queued last is the request's own, and a refusal comes with no other effect than a timer's restart. -/
theorem refusedRequestHasNoEffect : Obligations.RefusedRequestHasNoEffect := by
  intro c s t l r status fields request serving next changed last high
  obtain ⟨u, done, cases⟩ := exec_request request s
  obtain rfl : u = t := by rw [done] at next; cases next; rfl
  obtain ⟨l', r', out, nextRequest, acted, rfl⟩ := cases.resolve_left changed
  obtain ⟨rfl, rfl⟩ : l' = l ∧ r' = r := by
    rw [State.nextRequest_of_serving serving] at nextRequest
    cases nextRequest
    exact ⟨rfl, rfl⟩
  have code : out.2.status.code = status := by
    simp only [State.reply, State.modLink, State.link_setLink_same, Framer.reply, List.getLast?_concat, Option.some.injEq] at last
    have payload := congrArg Frame.payload last
    exact (List.cons.inj payload).1
  obtain ⟨-, -, directory, -, zones⟩ := acted.frame
  have unaffected : out.1.holds = s.holds ∧ out.1.poolFree = s.poolFree ∧ out.1.queue = s.queue ∧ out.1.lf0.watches = s.lf0.watches
      ∧ out.1.lf1.watches = s.lf1.watches ∧ ∀ h : Handle, (out.1.context h).staged = (s.context h).staged := by
    have taken : (s.take l' r').lf0.watches = s.lf0.watches ∧ (s.take l' r').lf1.watches = s.lf1.watches := by
      cases l' <;> exact ⟨rfl, rfl⟩
    rcases acted.refused (code ▸ high) with same | ⟨b, same⟩
    · rw [same]
      simp [taken]
    · have staged (h : Handle) : (out.1.context h).staged = (s.context h).staged := by
        rw [same, State.touch_staged, State.take_context]
      refine ⟨?_, ?_, ?_, ?_, ?_, staged⟩ <;> rw [same, State.touch_frame] <;> simp [taken]
  obtain ⟨holds, pool, queue, watches0, watches1, staged⟩ := unaffected
  have framers : (out.1.reply l' r' out.2).lf0.watches = out.1.lf0.watches ∧ (out.1.reply l' r' out.2).lf1.watches = out.1.lf1.watches := by
    cases l' <;> exact ⟨rfl, rfl⟩
  refine ⟨?_, ?_, ?_, ?_, ?_, framers.1.trans watches0, framers.2.trans watches1, fun h => ?_⟩
  · simp [State.reply, State.modLink, holds]
  · simp [State.reply, State.modLink, pool]
  · simp [State.reply, State.modLink, directory]
  · simp [State.reply, State.modLink, zones]
  · simp [State.reply, State.modLink, queue]
  · simpa [State.reply, State.modLink, State.context] using staged h

end Sys2Proof.Machine
end

section
/-! PROOFS. How a request step is read: the act on the state in service as an act on the state before, and a list of checks as the list of conditions
with their STATUS codes of which the first decides (section 10.1, R161, R162, R168, R169, R181). -/

namespace Sys2Proof.Machine

/-! ### The step of the request that is served -/

/-- An act that leads to a state that could as well have been changed before the request was taken, and the reply it gives. -/
theorem State.serve_answered {s u : State} {l : Link} {r : Request} (h : s.serving l r) {row : Row} (typ : r.row = row)
    (bit : replyType r.typ = r.typ + 0x80) {act : Link → Request → State → State × Reply} {reply : Reply}
    (acts : act l r (s.take l r) = (u.take l r, reply)) :
    s.serve row act = u.answered l r (reply.status.code :: reply.fields) := by
  rw [State.serve_of_serving h typ, acts]
  exact State.reply_take_eq_answered u l r reply bit

/-- The reply to a request whose TYPE is below 0x80 has that TYPE plus 0x80 (R168). -/
theorem replyType_of_low {typ : Byte} (low : typ.toNat < 0x80) : replyType typ = typ + 0x80 := by
  rw [replyType, if_neg]
  simpa [BitVec.msb_eq_decide] using low

theorem replyType_eq (typ : Byte) : replyType typ = if typ.toNat < 0x80 then typ + 0x80 else typ := by
  by_cases low : typ.toNat < 0x80
  · rw [replyType_of_low low, if_pos low]
  · rw [replyType, if_pos, if_neg low]
    simpa [BitVec.msb_eq_decide] using low

/-! ### Checks as conditions with codes -/

/-- The checks refuse as the conditions say: the first condition that holds gives the code of the status that refuses. -/
def Decides (checks : List (Option Status)) (steps : List (Bool × Byte)) : Prop :=
  (firstRefusal checks).map Status.code = firstOf steps

theorem Decides.nil : Decides [] [] := rfl

theorem firstOf_append (a b : List (Bool × Byte)) : firstOf (a ++ b) = (firstOf a).or (firstOf b) := by
  induction a with
  | nil => rfl
  | cons step rest ih =>
    obtain ⟨condition, code⟩ := step
    cases condition
    · exact ih
    · rfl

/-- What a list of conditions decides, condition by condition. -/
theorem firstOf_elim_cons {α : Type} (condition : Prop) [Decidable condition] (code : Byte) (rest : List (Bool × Byte)) (passed : α)
    (refuses : Byte → α) :
    (firstOf ((decide condition, code) :: rest)).elim passed refuses
      = if condition then refuses code else (firstOf rest).elim passed refuses := by
  by_cases holds : condition <;> simp [firstOf, holds]

theorem firstRefusal_append (a b : List (Option Status)) : firstRefusal (a ++ b) = (firstRefusal a).or (firstRefusal b) := by
  rw [firstRefusal, List.findSome?_append]
  rfl

theorem Decides.append {a b : List (Option Status)} {x y : List (Bool × Byte)} (first : Decides a x) (then' : Decides b y) :
    Decides (a ++ b) (x ++ y) := by
  rw [Decides, firstRefusal_append, firstOf_append, ← first, ← then']
  cases firstRefusal a <;> rfl

/-- A check in front of others. -/
theorem Decides.cons {c : Option Status} {b : List (Option Status)} {x y : List (Bool × Byte)} (first : Decides [c] x)
    (then' : Decides b y) : Decides (c :: b) (x ++ y) := first.append then'

/-- A check that refuses with one status under one condition. -/
theorem Decides.of_refuseIf (condition : Bool) (status : Status) : Decides [refuseIf condition status] [(condition, status.code)] := by
  cases condition <;> rfl

theorem Decides.of_iff {c : Option Status} {condition : Prop} [Decidable condition] (status : Status)
    (h : c = if condition then some status else none) : Decides [c] [(decide condition, status.code)] := by
  subst h
  by_cases holds : condition <;> simp [Decides, firstRefusal, firstOf, holds]

/-- A check that refuses with one of two statuses. -/
theorem Decides.of_two {c : Option Status} {p q : Prop} [Decidable p] [Decidable q] (first second : Status)
    (h : c = if p then some first else if q then some second else none) :
    Decides [c] [(decide p, first.code), (decide q, second.code)] := by
  subst h
  by_cases hp : p <;> by_cases hq : q <;> simp [Decides, firstRefusal, firstOf, hp, hq]

/-- A check refuses with one of two statuses exactly when it does not pass. -/
theorem Decides.of_values {c : Option Status} {first second : Status} (h : c = none ∨ c = some first ∨ c = some second)
    (apart : first ≠ second) :
    Decides [c] [(decide (c = some first), first.code), (decide (c = some second), second.code)] := by
  rcases h with rfl | rfl | rfl <;> simp [Decides, firstRefusal, firstOf, apart.symm]

theorem Decides.userKeyStep (k : Key) :
    Decides [userKeyStep k] [(decide (k = 0 ∨ k = 0xFFFF), 0x12), (decide (0xFF00 ≤ k.toNat), 0x13)] :=
  .of_two .badKey .reservedKey (userKeyStep_eq k)

theorem Decides.writeGate (store : Store) :
    Decides [writeGate store] [(decide (store ≠ .ready ∧ store.readable = true), 0x42), (decide (store.readable = false), 0x43)] := by
  refine .of_two .readOnly .notReady ?_
  cases store <;> rfl

theorem Decides.readGate (store : Store) : Decides [readGate store] [(decide (store.readable = false), 0x43)] := by
  cases store <;> rfl

theorem Decides.supplyStep (supply : Supply) : Decides [supplyStep supply] [(decide (supply = .low), 0x41)] := by
  cases supply <;> rfl

theorem State.writeCheck_values (s : State) (l : Link) (wp : Wp) (k : Key) :
    s.writeCheck l wp k = none ∨ s.writeCheck l wp k = some .frozen ∨ s.writeCheck l wp k = some .isProtected := by
  cases zone : zoneOf s.zones k with
  | none => exact .inl (State.writeCheck_of_no_zone zone l wp)
  | some z =>
    rw [State.writeCheck_of_zone zone]
    split
    · exact .inr (.inl rfl)
    · split
      · exact .inr (.inr rfl)
      · split
        · exact .inr (.inr rfl)
        · exact .inl rfl

theorem Decides.writeCheck (s : State) (l : Link) (wp : Wp) (k : Key) :
    Decides [s.writeCheck l wp k]
      [(decide (s.writeCheck l wp k = some .frozen), 0x51), (decide (s.writeCheck l wp k = some .isProtected), 0x50)] :=
  .of_values (s.writeCheck_values l wp k) (by decide)

/-- The job queue has no place: 8 jobs, or a FORMAT (R66). -/
theorem State.queueFull_eq (s : State) : s.queueFull = decide (8 ≤ s.queue.length ∨ ∃ j ∈ s.queue, j.work = .format) := by
  have format (j : Job) : j.isFormat = true ↔ j.work = .format := by
    cases work : j.work <;> simp [Job.isFormat, work, Work.kind]
  change (decide (8 ≤ s.queue.length) || s.queue.any Job.isFormat) = _
  rw [Bool.eq_iff_iff]
  simp [format]

theorem Decides.queueStep (s : State) :
    Decides [s.queueStep] [(decide (8 ≤ s.queue.length ∨ ∃ j ∈ s.queue, j.work = .format), 0x40)] := by
  rw [State.queueStep, State.queueFull_eq]
  exact .of_refuseIf _ .queueFull

theorem Decides.lacksLines (s : State) (n : Nat) :
    Decides [refuseIf (s.lacksLines n) .storeFull] [(decide (s.liveCapacity < s.liveLines + s.reservedLines + n), 0x23)] :=
  .of_refuseIf _ .storeFull

theorem Decides.lacksSlots (s : State) (n : Nat) :
    Decides [refuseIf (s.lacksSlots n) .dirFull] [(decide (512 < s.directory.length + s.slotReservations + n), 0x22)] :=
  .of_refuseIf _ .dirFull

theorem State.holder_isSome (s : State) (k : Key) : (s.holder k).isSome = s.holds.any (fun p => p.1 == k) := by
  rw [State.holder, Option.isSome_map, Bool.eq_iff_iff, List.find?_isSome, List.any_eq_true]

theorem Decides.holder (s : State) (k : Key) :
    Decides [refuseIf (s.holder k).isSome .keyHeld] [(s.holds.any (fun p => p.1 == k), 0x21)] := by
  rw [State.holder_isSome]
  exact .of_refuseIf _ .keyHeld

/-- Checks that the conditions let pass. -/
theorem Decides.passed {checks : List (Option Status)} {steps : List (Bool × Byte)} (d : Decides checks steps) (none' : firstOf steps = none) :
    firstRefusal checks = none := by
  rw [← d] at none'
  exact Option.map_eq_none_iff.mp none'

/-- Checks of which one refuses. -/
theorem Decides.refused {checks : List (Option Status)} {steps : List (Bool × Byte)} {code : Byte} (d : Decides checks steps)
    (first : firstOf steps = some code) : ∃ e : Status, e.code = code ∧ firstRefusal checks = some e := by
  rw [← d] at first
  obtain ⟨e, refuses, rfl⟩ := Option.map_eq_some_iff.mp first
  exact ⟨e, rfl, refuses⟩

/-- The format step of a payload is a check in front of the others. -/
theorem withFormat_eq_withChecks {α : Type} {done : State × Reply} {parsed : Except Status α} {c : Option Status} {a : α}
    (parse : parsed = c.elim (.ok a) .error) {checks : List (Option Status)} {s : State} {act : α → State × Reply}
    (onward : act a = withChecks checks s done) : withFormat parsed s act = withChecks (c :: checks) s done := by
  subst parse
  cases c with
  | none => exact onward
  | some e => rfl

section
variable {s u v : State} {l : Link} {r : Request} {row : Row} {act : Link → Request → State → State × Reply}

/-- A request whose checks decide as the conditions say: the first that holds gives the STATUS of the reply, in the state that a refusal leaves;
where none holds, the act decides. -/
theorem State.serve_steps (h : s.serving l r) (typ : r.row = row) (bit : replyType r.typ = r.typ + 0x80)
    {checks : List (Option Status)} {steps : List (Bool × Byte)} (d : Decides checks steps) {done : State × Reply} {reply : Reply}
    (acts : act l r (s.take l r) = withChecks checks (u.take l r) done) (does : firstOf steps = none → done = (v.take l r, reply)) :
    s.serve row act
      = (firstOf steps).elim (v.answered l r (reply.status.code :: reply.fields)) (fun code => u.answered l r [code]) := by
  cases first : firstOf steps with
  | some code =>
    obtain ⟨e, rfl, refuses⟩ := d.refused first
    exact State.serve_answered h typ bit (acts.trans (withChecks_refuse refuses _ _))
  | none => exact State.serve_answered h typ bit ((acts.trans (withChecks_pass (d.passed first) _ _)).trans (does first))

end

/-! ### Changes that may be made before a request is taken -/

section
variable (s : State) (l : Link) (r : Request)

theorem State.setContext_take (h : Handle) (c : Context) : (s.take l r).setContext h c = (s.setContext h c).take l r := by
  cases l <;> rfl

theorem State.freeContext_take (h : Handle) : (s.take l r).freeContext h = (s.freeContext h).take l r := by
  cases l <;> rfl

theorem State.acceptJob_take (work : Work) (origin : Link) (lines slots : Nat) :
    (s.take l r).acceptJob work origin lines slots = (s.acceptJob work origin lines slots).take l r := by
  cases l <;> rfl

theorem State.touch_take (m : Link) (b : Byte) : (s.take l r).touch m b = (s.touch m b).take l r := by
  unfold State.touch
  split
  · unfold State.restartTimer
    rw [State.take_context]
    split
    · split
      · exact s.setContext_take l r ..
      · rfl
    · rfl
  · rfl

end

/-- The accepted job takes the next ticket (R68, R69). -/
theorem ticketAfter_eq (ticket : Ticket) : ticketAfter ticket = if ticket = 0xFFFF then 1 else ticket + 1 := rfl

/-! ### Vectors as lists -/

/-- The entries of a vector in order of their places. -/
theorem toList_eq_map_finRange {α : Type} {n : Nat} (v : Vector α n) : v.toList = (List.finRange n).map (fun i => v[i]) := by
  refine List.ext_getElem (by simp) fun i h g => ?_
  simp

end Sys2Proof.Machine
end

section
/-! PROOFS. Session, information and record requests: HELLO, STAT, SECTORS and BAD_TYPE (R47, R166 to R171), READ in view COMMITTED, LIST,
WRITE and DELETE (R8, R9, R69, R173 to R176). -/

namespace Sys2Proof.Machine

variable {l : Link} {r : Request}

/-! ### HELLO (R47, R166, R167) -/

/-- A HELLO does not look at the FIFO or at the request in service. -/
theorem Framer.takeFrom_taken (f : Framer) (fifo : List Request) (inService : Option Request) (waiting : List Notice) :
    ({ f with fifo := fifo, inService := inService } : Framer).takeFrom waiting
      = { f.takeFrom waiting with fifo := fifo, inService := inService } := by
  induction waiting generalizing f with
  | nil => rfl
  | cons n rest ih =>
    by_cases free : 0 < f.freeSlots
    · have free' : 0 < ({ f with fifo := fifo, inService := inService } : Framer).freeSlots := free
      rw [Framer.takeFrom, Framer.takeFrom, if_pos free, if_pos free']
      exact ih (f.enter n)
    · have full : ¬ 0 < ({ f with fifo := fifo, inService := inService } : Framer).freeSlots := free
      rw [Framer.takeFrom, Framer.takeFrom, if_neg free, if_neg full]

theorem Framer.hello_taken (f : Framer) (fifo : List Request) (inService : Option Request) (mask : BitVec 5) :
    ({ f with fifo := fifo, inService := inService } : Framer).hello mask
      = { f.hello mask with fifo := fifo, inService := inService } :=
  Framer.takeFrom_taken
    { f with watches := [], out := f.keptFrames, sequence := 0, lost := 0, mask := mask, retry := none } fifo inService f.backlog

theorem Framer.hello_fifo (f : Framer) (mask : BitVec 5) : (f.hello mask).fifo = f.fifo :=
  (Framer.takeFrom_frame _ _).2.1

/-- A frame that a HELLO keeps, by its TYPE: a reply has TYPE 0x80 or above. -/
theorem keptByHello_eq (q : Frame) : keptByHello q = (decide (0x80 ≤ q.typ.toNat) || decide (q.typ = 0x61)) := by
  simp [keptByHello, Frame.isNotice, Frame.isJobDone, BitVec.msb_eq_decide]

/-- The frames that stay: a head that has begun, and behind it the replies and JOB_DONE notices. -/
theorem Framer.keptFrames_eq (f : Framer) :
    f.keptFrames = f.out.take (if f.sent = 0 then 0 else 1)
      ++ (f.out.drop (if f.sent = 0 then 0 else 1)).filter (fun q => decide (0x80 ≤ q.typ.toNat) || decide (q.typ = 0x61)) := by
  have kept : keptByHello = fun q => decide (0x80 ≤ q.typ.toNat) || decide (q.typ = 0x61) := funext keptByHello_eq
  rw [← kept, Framer.keptFrames]
  cases f.out with
  | nil => simp
  | cons head rest =>
    by_cases begun : f.sent = 0
    · simp [begun, List.filter_cons]
      split <;> simp
    · simp [begun, Nat.pos_of_ne_zero begun]

theorem State.foldl_freeContext_take (hs : List Handle) (s : State) :
    hs.foldl State.freeContext (s.take l r) = (hs.foldl State.freeContext s).take l r := by
  induction hs generalizing s with
  | nil => rfl
  | cons h rest ih => rw [List.foldl_cons, List.foldl_cons, State.freeContext_take, ih]

theorem State.foldl_freeContext_link (hs : List Handle) (s : State) : (hs.foldl State.freeContext s).link l = s.link l := by
  induction hs generalizing s with
  | nil => rfl
  | cons h rest ih => rw [List.foldl_cons, ih]; cases l <;> rfl

/-- The session of a link may be restarted before its HELLO is taken. -/
theorem State.modLink_hello_take (mask : BitVec 5) (u : State) :
    (u.take l r).modLink l (fun f => f.hello mask) = (u.setLink l ((u.link l).hello mask)).take l r := by
  cases l
  · simp only [State.take, State.modLink, State.setLink, State.link, Framer.hello_taken, Framer.hello_fifo]
  · simp only [State.take, State.modLink, State.setLink, State.link, Framer.hello_taken, Framer.hello_fifo]

theorem State.foldl_freeContext_report (hs : List Handle) (s : State) :
    (hs.foldl State.freeContext s).store = s.store ∧ (hs.foldl State.freeContext s).generationNext = s.generationNext
      ∧ (hs.foldl State.freeContext s).epoch = s.epoch := by
  induction hs generalizing s with
  | nil => exact ⟨rfl, rfl, rfl⟩
  | cons h rest ih =>
    obtain ⟨store, next, epoch⟩ := ih (s.freeContext h)
    exact ⟨store, next, epoch⟩

/-- Settles O42: what HELLO does to contexts and link may be done before the request is taken; the reply reports none of it. -/
theorem helloRestartsTheSession : Obligations.HelloRestartsTheSession := by
  intro s l r m h typ payload low aborted freed f kept link
  have row : r.row = .hello := by simp [Request.row, typ]
  have bit : replyType r.typ = r.typ + 0x80 := by rw [typ]; rfl
  have opened : (s.take l r).openContexts l = aborted := by cases l <;> rfl
  have restarted : (s.take l r).hello l (m.extractLsb' 0 5) = (freed.setLink l link.drainBacklog).take l r := by
    rw [State.hello, opened, State.foldl_freeContext_take, State.modLink_hello_take, State.foldl_freeContext_link]
    simp only [Framer.hello, Framer.keptFrames_eq]
    rfl
  obtain ⟨store, next, epoch⟩ := State.foldl_freeContext_report aborted s
  refine congrArg Host.Outcome.next ((State.serve_answered (reply := s.helloReply aborted.length) h row bit ?_))
  rw [payload, parseMask_singleton, if_neg (by omega)]
  refine Prod.ext restarted ?_
  change State.helloReply ((s.take l r).hello l _) _ = _
  rw [restarted, opened]
  simp only [State.helloReply, State.take_store, State.take_generationNext, State.take_epoch, State.setLink_store, State.setLink_generationNext,
    State.setLink_epoch]
  rw [store, next, epoch]

/-! ### STAT and SECTORS (R170, R171) -/

theorem State.take_statReply (s : State) (l : Link) (r : Request) (wp : Wp) : (s.take l r).statReply wp = s.statReply wp := by
  cases l <;> rfl

/-- Settles O43: both replies read the state and change nothing; the codes of engine, pass, supply and WP are those of R182. -/
theorem statAndSectorsReport : Obligations.StatAndSectorsReport := by
  intro s l r wp h empty
  refine ⟨fun typ => ?stat, fun typ => ?sectors⟩
  case stat =>
    have row : r.row = .stat := by simp [Request.row, typ]
    refine congrArg Host.Outcome.next ((State.serve_answered (u := s) (reply := s.statReply wp) h row (by rw [typ]; rfl) ?_).trans ?_)
    · rw [empty]
      exact Prod.ext rfl (s.take_statReply l r wp)
    · refine congrArg (s.answered l r) ?_
      have mode : s.engine.modeCode = (match s.engine with
          | .reclaiming .background => 1
          | .reclaiming .urgent => 2
          | _ => 0) := by
        cases s.engine with
        | reclaiming m => cases m <;> rfl
        | _ => rfl
      have phase : s.phaseCode = (match s.pass with
          | some p => p.phase.code
          | none => 0) := by
        cases pass : s.pass <;> simp [State.phaseCode, pass]
      have supply : supplyCode s.supply = if s.supply = .low then 1 else 0 := by
        cases s.supply <;> rfl
      have protect : wpCode wp = if wp = .asserted then 1 else 0 := by
        cases wp <;> rfl
      rw [State.statReply, mode, phase, supply, protect]
      rfl
  case sectors =>
    have row : r.row = .sectors := by simp [Request.row, typ]
    refine congrArg Host.Outcome.next ((State.serve_answered (u := s)
      (reply := ⟨.ok, s.sectors.toList.flatMap SectorRecord.report⟩) h row (by rw [typ]; rfl) ?_).trans ?_)
    · rw [empty]
      exact Prod.ext rfl (by rw [← State.take_sectors s l r]; rfl)
    · rw [toList_eq_map_finRange, List.flatMap_map]
      rfl

/-! ### BAD_TYPE (R168) -/

/-- A TYPE that is not one of the twenty is taken by BAD_TYPE. -/
theorem Request.row_of_unknown (r : Request)
    (unknown : r.typ.toNat ∉ [0x01, 0x02, 0x03, 0x04, 0x10, 0x11, 0x12, 0x13, 0x20, 0x21, 0x22, 0x23, 0x24, 0x25, 0x30, 0x31, 0x38, 0x39, 0x3A,
      0x3F]) : r.row = .badType := by
  unfold Request.row
  split
  case h_21 => rfl
  all_goals
    rename_i known
    exact absurd (by rw [known]; decide) unknown

/-- Settles O46: the reply is queued under the reply TYPE of R168, and no more is done than to take the request. -/
theorem unknownTypeRefused : Obligations.UnknownTypeRefused := by
  intro s l r h unknown frame
  refine congrArg Host.Outcome.next ((State.serve_of_serving h (r.row_of_unknown unknown) _).trans ?_)
  have same : r.replyFrame (refused .badType) = frame := by
    rw [Request.replyFrame, replyType_eq]
    rfl
  cases l <;> simp only [State.take, State.reply, State.modLink, State.setLink, State.link, Framer.reply, same]

end Sys2Proof.Machine
end

section
/-! PROOFS. Record requests: READ in view COMMITTED, LIST, WRITE and DELETE (R8, R9, R69, R173 to R176). -/

namespace Sys2Proof.Machine



/-! ### READ in view COMMITTED (R8, R173) -/

/-- What READ in view COMMITTED does with a request. -/
def readCommittedAct (r : Request) (t : State) : State × Reply :=
  withFormat (parseReadCommitted r.payload) t (fun k => withChecks [userKeyStep k, readGate t.store] t (t, t.readCommitted k))

theorem exec_readCommitted (s : State) :
    exec .readCommitted s = .next (s.serve .readCommitted (fun _ r t => readCommittedAct r t)) := rfl

/-- READ in view COMMITTED changes nothing, and of the state its reply depends on the store state and the committed view alone. -/
theorem readCommitted_answers (r : Request) (s : State) : ∃ reply : Reply, ∀ t : State, t.store = s.store →
    (∀ k, t.readCommitted k = s.readCommitted k) → readCommittedAct r t = (t, reply) := by
  unfold readCommittedAct
  cases parseReadCommitted r.payload with
  | error e => exact ⟨refused e, fun t _ _ => rfl⟩
  | ok k =>
    cases gate : firstRefusal [userKeyStep k, readGate s.store] with
    | some e => exact ⟨refused e, fun t store _ => by rw [withFormat, store, withChecks_refuse gate]⟩
    | none => exact ⟨s.readCommitted k, fun t store view => by rw [withFormat, store, withChecks_pass gate, view]⟩

/-- A step of the executor whose act does no more than reply. -/
def State.servedWith (s : State) (row : Row) (reply : Link → Request → Reply) : State :=
  if s.held = true then s
  else match s.nextRequest with
    | none => s
    | some (l, r) => if r.row = row then (s.take l r).reply l r (reply l r) else s

theorem State.serve_of_answers {s : State} {row : Row} {act : Link → Request → State → State × Reply} {reply : Link → Request → Reply}
    (answers : ∀ l r, act l r (s.take l r) = (s.take l r, reply l r)) : s.serve row act = s.servedWith row reply := by
  unfold State.serve State.unlessHeld State.servedWith
  dsimp only
  cases s.nextRequest with
  | none => rfl
  | some next => simp only [answers]

/-- Other contexts, holds, jobs and units. -/
def State.restaged (s : State) (contexts : Vector Context 4) (holds : List (Key × Holder)) (queue : List Job) (poolFree : Nat) : State :=
  { s with contexts := contexts, holds := holds, queue := queue, poolFree := poolFree }

/-- Which request is served does not depend on contexts, holds, queue or pool. -/
theorem State.restaged_servedWith (s : State) (row : Row) (reply : Link → Request → Reply) (contexts : Vector Context 4)
    (holds : List (Key × Holder)) (queue : List Job) (poolFree : Nat) :
    (s.restaged contexts holds queue poolFree).servedWith row reply = (s.servedWith row reply).restaged contexts holds queue poolFree := by
  have same : (s.restaged contexts holds queue poolFree).nextRequest = s.nextRequest := rfl
  have released : (s.restaged contexts holds queue poolFree).held = s.held := rfl
  unfold State.servedWith
  rw [same, released]
  cases s.held with
  | true => rfl
  | false =>
    cases s.nextRequest with
    | none => rfl
    | some next =>
      obtain ⟨l, r⟩ := next
      by_cases taken : r.row = row
      · simp only [taken, if_true, Bool.false_eq_true, if_false]
        cases l <;> rfl
      · simp only [taken, if_false, Bool.false_eq_true]

/-- Settles O15: neither the choice of the request served nor its reply depends on what is staged, held or queued. -/
theorem committedViewIgnoresStaging : Obligations.CommittedViewIgnoresStaging := by
  intro s t contexts holds queue poolFree ran
  obtain ⟨reply, answers⟩ := Classical.skolem.mp fun r => readCommitted_answers r s
  have plain := State.serve_of_answers (s := s) (row := .readCommitted) (act := fun _ r t => readCommittedAct r t) (reply := fun _ r => reply r)
    fun l r => answers r _ (State.take_store ..) (State.take_readCommitted s l r)
  have other := State.serve_of_answers (s := s.restaged contexts holds queue poolFree) (row := .readCommitted)
    (act := fun _ r t => readCommittedAct r t) (reply := fun _ r => reply r)
    fun l r => answers r _ (State.take_store ..) (State.take_readCommitted _ l r)
  rw [exec_readCommitted, plain] at ran
  cases ran
  exact congrArg Host.Outcome.next (other.trans (s.restaged_servedWith ..))

/-- The value of a LIVE key as the statement of READ gives it. -/
theorem State.readCommitted_reply (s : State) (k : Key) :
    (s.readCommitted k).status.code :: (s.readCommitted k).fields = (match s.directory.find? (fun e => e.key == k) with
      | some e =>
        if e.state = .live then
          [0x00] ++ be32 e.generation ++ [0x00] ++ be16Nat e.length
            ++ (List.range e.length).map (fun i => s.array.cells.read (e.loc.sector.val * 4096 + e.loc.line * 16 + 16 + i))
        else [0x20]
      | none => [0x20]) := by
  rw [State.readCommitted, State.lookup]
  cases s.directory.find? (fun e => e.key == k) with
  | none => rfl
  | some e =>
    dsimp only
    split
    · simp [readFields, CellArray.readValue, lineAddress, Status.code]
    · rfl

/-- Settles O47: the key step and the gate come first; then the committed view answers. -/
theorem readCommittedAnswersFromTheDirectory : Obligations.ReadCommittedAnswersFromTheDirectory := by
  intro s l r k handle h typ payload short
  have view : r.payload[2]? ≠ some 1 := by
    rw [payload]
    simp [be16]
  have row : r.row = .readCommitted := by
    rw [Request.row, typ]
    exact if_neg view
  have acts : withFormat (parseReadCommitted r.payload) (s.take l r)
        (fun k => withChecks [userKeyStep k, readGate (s.take l r).store] (s.take l r) (s.take l r, (s.take l r).readCommitted k))
      = withChecks [userKeyStep k, readGate s.store] (s.take l r) (s.take l r, s.readCommitted k) := by
    rw [payload, parseReadCommitted_layout k handle short, withFormat, State.take_store, State.take_readCommitted]
  refine congrArg Host.Outcome.next ((State.serve_steps (v := s) h row (by rw [typ]; rfl)
    ((Decides.userKeyStep k).cons (.readGate s.store)) acts (fun _ => rfl)).trans ?_)
  simp only [State.readCommitted_reply, List.cons_append, List.nil_append, firstOf_elim_cons, apply_ite (s.answered l r)]
  rfl

/-! ### LIST (R9, R174) -/

theorem State.take_listReply (s : State) (l : Link) (r : Request) (k : Key) (max : Nat) : (s.take l r).listReply k max = s.listReply k max := by
  cases l <;> rfl

/-- The LIVE user entries from a start key on, as the statement of LIST gives them. -/
theorem State.listed_eq (s : State) (start : Key) :
    s.listed start = s.directory.filter (fun e =>
      decide (start.toNat ≤ e.key.toNat) && decide (e.key.toNat ≤ 0xFEFF) && (e.state == .live)) := by
  refine congrArg (fun p => List.filter p s.directory) (funext fun e => ?_)
  cases e.state <;> simp

/-- Settles O48: a LIST whose key step and gate pass reports the entries that the directory's order gives. -/
theorem listWalksInKeyOrder : Obligations.ListWalksInKeyOrder := by
  intro s l r start max h typ payload least most user readable from' found
  have row : r.row = .list := by simp [Request.row, typ]
  have pass : firstRefusal [userKeyStep start, readGate s.store] = none := by
    rw [userKeyStep_of_userKey user, readGate_eq, if_pos readable]
    rfl
  refine congrArg Host.Outcome.next ((State.serve_answered (u := s) (reply := s.listReply start max.toNat) h row (by rw [typ]; rfl) ?_).trans ?_)
  · rw [payload, parseList_layout start max least most]
    exact (withChecks_pass (by rw [State.take_store]; exact pass) _ _).trans (Prod.ext rfl (s.take_listReply l r start max.toNat))
  · rw [State.listReply, State.listed_eq]
    refine congrArg (fun next => s.answered l r ([0x00, BitVec.ofNat 8 found.length]
      ++ found.flatMap (fun e => be16 e.key ++ be16Nat e.length ++ be32 e.generation) ++ be16 next)) ?_
    change nextKeyOf (from'.drop max.toNat) = _
    cases from'.drop max.toNat <;> rfl

/-! ### WRITE and DELETE (R69, R175, R176) -/

/-- A key that no holder has takes its hold behind the others. -/
theorem State.takeHold_of_free {s : State} {k : Key} (free : s.holds.any (fun p => p.1 == k) = false) (h : Holder) :
    s.takeHold k h = { s with holds := s.holds ++ [(k, h)] } := by
  have kept : s.holds.filter (fun p => !(p.1 == k)) = s.holds := by
    refine List.filter_eq_self.mpr fun p mem => ?_
    simpa using List.any_eq_false.mp free p mem
  rw [State.takeHold, kept]

theorem State.take_writeChecks (s : State) (m : Link) (q : Request) (l : Link) (wp : Wp) (k : Key) (v : List Byte) :
    (s.take m q).writeChecks l wp k v = s.writeChecks l wp k v := by
  cases m <;> rfl

theorem State.take_deleteChecks (s : State) (m : Link) (q : Request) (l : Link) (wp : Wp) (k : Key) :
    (s.take m q).deleteChecks l wp k = s.deleteChecks l wp k := by
  cases m <;> rfl

/-- The checks that WRITE and DELETE share: key, gate, supply, zone and hold. -/
theorem Decides.recordGate (s : State) (l : Link) (wp : Wp) (k : Key) :
    Decides [Machine.userKeyStep k, Machine.writeGate s.store, Machine.supplyStep s.supply, s.writeCheck l wp k, refuseIf (s.holder k).isSome .keyHeld]
      ([(decide (k = 0 ∨ k = 0xFFFF), 0x12), (decide (0xFF00 ≤ k.toNat), 0x13)]
        ++ [(decide (s.store ≠ .ready ∧ s.store.readable = true), 0x42), (decide (s.store.readable = false), 0x43),
          (decide (s.supply = .low), 0x41),
          (decide (s.writeCheck l wp k = some .frozen), 0x51), (decide (s.writeCheck l wp k = some .isProtected), 0x50),
          (s.holds.any (fun p => p.1 == k), 0x21)]) :=
  (Decides.userKeyStep k).cons ((Decides.writeGate s.store).cons ((Decides.supplyStep s.supply).cons
    ((Decides.writeCheck s l wp k).cons (.holder s k))))

/-- The length step of WRITE (R168 step 3). -/
def lengthStep (len : BitVec 16) (v : List Byte) : Option Status :=
  if 256 < len.toNat then some .tooLong else if v.length ≠ len.toNat then some .badFormat else none

theorem parseWrite_eq (k : Key) (len : BitVec 16) (v : List Byte) :
    parseWrite (be16 k ++ be16 len ++ v) = (lengthStep len v).elim (.ok (k, v)) .error := by
  rw [parseWrite_layout, lengthStep]
  by_cases long : 256 < len.toNat
  · rw [if_pos long, if_pos long]
    rfl
  · rw [if_neg long, if_neg long]
    by_cases fits : v.length = len.toNat
    · rw [if_pos fits, if_neg (Classical.not_not.mpr fits)]
      rfl
    · rw [if_neg fits, if_pos fits]
      rfl

/-- No condition of a list that refuses none holds. -/
theorem firstOf_eq_none {steps : List (Bool × Byte)} (none' : firstOf steps = none) {condition : Bool} {code : Byte}
    (mem : (condition, code) ∈ steps) : condition = false := by
  induction steps with
  | nil => cases mem
  | cons step rest ih =>
    obtain ⟨first, _⟩ := step
    cases first with
    | true => cases none'
    | false =>
      cases mem with
      | head => rfl
      | tail _ more => exact ih none' more

theorem State.take_acceptWrite (s : State) (m : Link) (q : Request) (l : Link) (k : Key) (v : List Byte) :
    (s.take m q).acceptWrite l k v = (s.acceptWrite l k v).take m q := by
  cases m <;> rfl

theorem State.take_acceptDelete (s : State) (m : Link) (q : Request) (l : Link) (k : Key) :
    (s.take m q).acceptDelete l k = (s.acceptDelete l k).take m q := by
  cases m <;> rfl

/-- Settles O49: the checks of WRITE and DELETE decide as the steps say; a request that passes them finds its key without a holder. -/
theorem writeAndDeleteByTheirSteps : Obligations.WriteAndDeleteByTheirSteps := by
  intro s l r wp k h keys gate queueStep nextTicket
  have recordGate := Decides.recordGate s l wp k
  refine ⟨?write, ?delete⟩
  case write =>
    intro len v typ payload units slots
    have row : r.row = .write := by simp [Request.row, typ]
    have decides : Decides (lengthStep len v :: s.writeChecks l wp k v)
        ([(decide (256 < len.toNat), 0x14), (decide (v.length ≠ len.toNat), 0x11)] ++ keys ++ gate
          ++ [(decide (s.liveCapacity < s.liveLines + s.reservedLines + (1 + units)), 0x23),
            (decide (512 < s.directory.length + s.slotReservations + slots), 0x22),
            (decide (s.poolFree < units), 0x34)] ++ queueStep) :=
      (Decides.of_two .tooLong .badFormat rfl).cons (recordGate.append ((Decides.lacksLines s _).cons
        ((Decides.lacksSlots s _).cons ((Decides.of_refuseIf _ .poolFull).cons (.queueStep s)))))
    refine congrArg Host.Outcome.next ((State.serve_steps (v := s.acceptWrite l k v) (reply := acceptedReply s.nextTicket) h row
      (by rw [typ]; rfl) decides (withFormat_eq_withChecks (by rw [payload]; exact parseWrite_eq k len v)
        (by rw [State.take_writeChecks])) (fun _ => by rw [State.take_acceptWrite, State.take_nextTicket])).trans ?_)
    generalize first : firstOf _ = refusal
    cases refusal with
    | some code => rfl
    | none =>
      have free := firstOf_eq_none first (condition := s.holds.any (fun p => p.1 == k)) (code := 0x21) (by simp [gate])
      rw [State.acceptWrite, State.takeHold_of_free (s := { s with poolFree := s.poolFree - unitsOf v.length }) free]
      rfl
  case delete =>
    intro typ payload
    have row : r.row = .delete := by simp [Request.row, typ]
    have decides : Decides (s.deleteChecks l wp k)
        (keys ++ gate ++ [(!(s.lookup k).any (fun e => e.state == .live), 0x20),
          (decide (s.liveCapacity < s.liveLines + s.reservedLines + 1), 0x23)] ++ queueStep) :=
      recordGate.append ((Decides.of_refuseIf _ .notFound).cons ((Decides.lacksLines s _).cons (.queueStep s)))
    refine congrArg Host.Outcome.next ((State.serve_steps (v := s.acceptDelete l k) (reply := acceptedReply s.nextTicket) h row
      (by rw [typ]; rfl) decides (by
        rw [payload, parseKey_layout]
        exact congrArg (withChecks · _ _) (s.take_deleteChecks l r l wp k))
      (fun _ => by rw [State.take_acceptDelete, State.take_nextTicket])).trans ?_)
    generalize first : firstOf _ = refusal
    cases refusal with
    | some code => rfl
    | none =>
      have free := firstOf_eq_none first (condition := s.holds.any (fun p => p.1 == k)) (code := 0x21) (by simp [gate])
      rw [State.acceptDelete, State.takeHold_of_free free]
      rfl

end Sys2Proof.Machine
end

section
/-! PROOFS. What the requests that name a handle share: the handle step and the timer's restart (R24, R38); BEGIN (R25), and the handle
step of every request that has one. -/

namespace Sys2Proof.Machine

/-! ### The handle step (R24) -/

section
variable {s : State} {l : Link} {b : Byte} {h : Handle}

/-- The context of a handle byte that the link owns. -/
theorem State.ownContext_of_owner (handle : handleOf b = some h) (own : (s.context h).owner = some l) :
    s.ownContext l b = some (h, s.context h) := by
  simp [State.ownContext, handle, own]

/-- A handle byte names no context of the link. -/
theorem State.ownContext_of_none (other : ∀ h, handleOf b = some h → (s.context h).owner ≠ some l) : s.ownContext l b = none := by
  rw [State.ownContext]
  cases handle : handleOf b with
  | none => rfl
  | some h => exact if_neg (other h handle)

theorem State.handleStep_of_none (other : s.ownContext l b = none) : s.handleStep l b = some .badHandle := by
  rw [State.handleStep, other]
  rfl

theorem State.handleStep_of_own {c : Handle × Context} (own : s.ownContext l b = some c) : s.handleStep l b = none := by
  rw [State.handleStep, own]
  rfl

theorem State.openHandleStep_of_none (other : s.ownContext l b = none) : s.openHandleStep l b = some .badHandle := by
  rw [State.openHandleStep, other]

theorem State.openHandleStep_of_own {c : Context} (own : s.ownContext l b = some (h, c)) :
    s.openHandleStep l b = if c.isCommitting then some .txnState else none := by
  rw [State.openHandleStep, own]
  rfl

/-! ### The timer's restart (R38) -/

variable {timeout idle : Nat} {staged : List Staged} {ticket : Ticket}

/-- A request that names an OPEN context of its link restarts the timer. -/
theorem State.touch_of_opened (handle : handleOf b = some h) (opened : s.context h = .opened l timeout idle staged) :
    s.touch l b = s.setContext h (.opened l timeout 0 staged) := by
  simp [State.touch, handle, State.restartTimer, opened]

theorem State.touch_of_committing (handle : handleOf b = some h) (committing : s.context h = .committing l timeout staged ticket) :
    s.touch l b = s := by
  simp [State.touch, handle, State.restartTimer, committing]

/-- A request that names no context of its link restarts none. -/
theorem State.touch_of_other (other : ∀ h, handleOf b = some h → (s.context h).owner ≠ some l) : s.touch l b = s := by
  unfold State.touch
  cases handle : handleOf b with
  | none => rfl
  | some h =>
    have apart := other h handle
    change s.restartTimer l h = s
    unfold State.restartTimer
    cases context : s.context h with
    | opened o t idle staged =>
      rw [context] at apart
      exact if_neg fun same => apart (congrArg some same)
    | _ => rfl

end

/-! ### Checks in front that pass -/

theorem firstRefusal_cons (c : Option Status) (checks : List (Option Status)) : firstRefusal (c :: checks) = c.or (firstRefusal checks) := by
  cases c <;> rfl

/-- A check that passes decides nothing. -/
theorem Decides.of_none {c : Option Status} {checks : List (Option Status)} {steps : List (Bool × Byte)} (passes : c = none)
    (d : Decides checks steps) : Decides (c :: checks) steps := by
  rw [passes]
  exact d

theorem firstRefusal_singleton (c : Option Status) : firstRefusal [c] = c := by
  cases c <;> rfl

/-- In a readable store the handle step alone decides what COMMIT does first. -/
theorem State.commitFirstChecks_of_readable {s : State} (readable : s.store.readable = true) (l : Link) (b : Byte) :
    firstRefusal (s.commitFirstChecks l b) = s.openHandleStep l b := by
  rw [State.commitFirstChecks]
  cases store : s.store with
  | ready => exact firstRefusal_singleton _
  | readOnly cause => exact firstRefusal_singleton _
  | _ => rw [store] at readable; cases readable

section
variable {s u : State} {l : Link} {r : Request} {row : Row} {act : Link → Request → State → State × Reply}

/-- A request that one of its checks refuses. -/
theorem State.serve_refused (h : s.serving l r) (typ : r.row = row) (bit : replyType r.typ = r.typ + 0x80)
    {checks : List (Option Status)} {e : Status}
    (acts : ∃ done, act l r (s.take l r) = withChecks checks (u.take l r) done) (refuses : firstRefusal checks = some e) :
    s.serve row act = u.answered l r [e.code] := by
  obtain ⟨done, acts⟩ := acts
  exact State.serve_answered (reply := refused e) h typ bit (acts.trans (withChecks_refuse refuses _ _))

end

/-! ### Payloads that name a handle -/

/-- The format step of a STAGE whose fields are well formed. -/
theorem parseStage_layout (b : Byte) (k : Key) {kind : Byte} {v : List Byte} (short : v.length ≤ 256)
    (kinds : kind = 0 ∨ (kind = 1 ∧ v = [])) :
    ∃ c, parseStage ([b] ++ be16 k ++ [kind] ++ be16Nat v.length ++ v) = .ok (b, k, c) := by
  rcases kinds with rfl | ⟨rfl, rfl⟩
  · exact ⟨_, parseStage_value b k v short⟩
  · exact ⟨_, parseStage_delete b k⟩

/-- A READ whose view byte is 1 is taken by READ_OWN. -/
theorem Request.row_of_readOwn {r : Request} {k : Key} {b : Byte} (typ : r.typ = 0x10) (payload : r.payload = be16 k ++ [1, b]) :
    r.row = .readOwn := by
  rw [Request.row, typ]
  exact if_pos (by rw [payload]; rfl)

/-! ### BEGIN (R25) -/

/-- The FREE context that has no FREE one before it. -/
theorem State.lowestFree_of_first {s : State} {h : Handle} (free : s.context h = .free) (first : ∀ g : Handle, g < h → s.context g ≠ .free) :
    s.lowestFree = some h := by
  refine List.find?_eq_some_iff_getElem.mpr ⟨decide_eq_true free, h.val, by simp [allHandles], by simp [allHandles], fun j before => ?_⟩
  simpa [allHandles] using first ⟨j, by omega⟩ before

theorem State.lowestFree_of_none {s : State} (taken : ∀ h : Handle, s.context h ≠ .free) : s.lowestFree = none :=
  List.find?_eq_none.mpr fun h _ => by simpa using taken h

theorem parseBegin_layout (t : BitVec 16) (range : t = 0 ∨ (100 ≤ t.toNat ∧ t.toNat ≤ 60000)) :
    parseBegin (be16 t) = .ok (if t = 0 then 5000 else t.toNat) := by
  simp only [be16, parseBegin, word16_extract]
  by_cases zero : t = 0
  · rw [if_pos zero, if_pos (by rw [zero]; rfl)]
  · have number : t.toNat ≠ 0 := fun e => zero (BitVec.eq_of_toNat_eq e)
    rw [if_neg zero, if_neg number, if_pos (range.resolve_left zero)]

/-- Settles O51: past its gate BEGIN opens the first FREE context, or there is none. -/
theorem beginOpensTheLowestFree : Obligations.BeginOpensTheLowestFree := by
  intro s l r t h typ payload range readable
  have row : r.row = .begin := by simp [Request.row, typ]
  have bit : replyType r.typ = r.typ + 0x80 := by rw [typ]; rfl
  have begins : withFormat (parseBegin r.payload) (s.take l r)
      (fun timeout => withChecks [readGate (s.take l r).store] (s.take l r) ((s.take l r).begin l timeout))
        = (s.take l r).begin l (if t = 0 then 5000 else t.toNat) := by
    rw [payload, parseBegin_layout t range]
    exact withChecks_pass (by rw [State.take_store, readGate_eq, if_pos readable]; rfl) _ _
  constructor
  · intro g free first
    have lowest : (s.take l r).lowestFree = some g :=
      State.lowestFree_of_first ((s.take_context l r g).trans free) fun j before => by rw [State.take_context]; exact first j before
    refine congrArg Host.Outcome.next (State.serve_answered (reply := ⟨.ok, [handleCode g]⟩) h row bit (begins.trans ?_))
    rw [State.begin, lowest]
    exact congrArg (·, _) (s.setContext_take l r g _)
  · intro taken
    have none' : (s.take l r).lowestFree = none := State.lowestFree_of_none fun j => by rw [State.take_context]; exact taken j
    refine congrArg Host.Outcome.next (State.serve_answered (reply := refused .noContext) h row bit (begins.trans ?_))
    rw [State.begin, none']

/-! ### The handle step of every request that names a handle -/

/-- What a handle step ends a request with: it refuses with a status, and the timer stays. -/
structure State.HandleRefused (s : State) (l : Link) (b : Byte) (e : Status) : Prop where
  step : s.openHandleStep l b = some e
  still : s.touch l b = s

section
variable {s : State} {l : Link} {r : Request} {b : Byte} {e : Status}

theorem stage_of_handleRefused (refusal : s.HandleRefused l b e) (h : s.serving l r) (readable : s.store.readable = true) (wp : Wp)
    (typ : r.typ = 0x21) {k : Key} {kind : Byte} {v : List Byte} (user : userKey k) (short : v.length ≤ 256)
    (kinds : kind = 0 ∨ (kind = 1 ∧ v = [])) (payload : r.payload = [b] ++ be16 k ++ [kind] ++ be16Nat v.length ++ v) :
    exec (.stage wp) s = .next (s.answered l r [e.code]) := by
  obtain ⟨c, parse⟩ := parseStage_layout b k short kinds
  refine congrArg Host.Outcome.next (State.serve_refused (u := s) (checks := (s.take l r).stageChecks l wp b k c) h (by simp [Request.row, typ])
    (by rw [typ]; rfl) ?_ ?_)
  · exact ⟨_, by rw [payload, parse, withFormat, State.touch_take, refusal.still]⟩
  · simp [State.stageChecks, firstRefusal_cons, userKeyStep_of_userKey user, readGate_eq, readable, refusal.step]

theorem unstage_of_handleRefused (refusal : s.HandleRefused l b e) (h : s.serving l r) (readable : s.store.readable = true)
    (typ : r.typ = 0x22) {k : Key} (low : k ≠ 0) (high : k ≠ 0xFFFF) (payload : r.payload = [b] ++ be16 k) :
    exec .unstage s = .next (s.answered l r [e.code]) := by
  refine congrArg Host.Outcome.next (State.serve_refused (u := s) (checks := (s.take l r).unstageChecks l b k) h (by simp [Request.row, typ])
    (by rw [typ]; rfl) ?_ ?_)
  · exact ⟨_, by rw [payload, parseHandleKey_layout, withFormat, State.touch_take, refusal.still]⟩
  · simp only [State.unstageChecks, firstRefusal_cons, anyKeyStep_eq, if_neg (not_or.mpr ⟨low, high⟩), State.take_store, readGate_eq,
      if_pos readable, State.take_openHandleStep, refusal.step]
    rfl

theorem commit_of_handleRefused (refusal : s.HandleRefused l b e) (h : s.serving l r) (readable : s.store.readable = true) (wp : Wp)
    (typ : r.typ = 0x23) (payload : r.payload = [b]) : exec (.commit wp) s = .next (s.answered l r [e.code]) := by
  refine congrArg Host.Outcome.next (State.serve_refused (u := s) (checks := (s.take l r).commitFirstChecks l b) h (by simp [Request.row, typ])
    (by rw [typ]; rfl) ?_ ?_)
  · exact ⟨_, by rw [payload, parseHandle, withFormat, State.touch_take, refusal.still]⟩
  · rw [State.commitFirstChecks_of_readable (by rwa [State.take_store]), State.take_openHandleStep, refusal.step]

theorem abort_of_handleRefused (refusal : s.HandleRefused l b e) (h : s.serving l r) (readable : s.store.readable = true)
    (typ : r.typ = 0x24) (payload : r.payload = [b]) : exec .abort s = .next (s.answered l r [e.code]) := by
  refine congrArg Host.Outcome.next (State.serve_refused (u := s)
    (checks := [readGate (s.take l r).store, (s.take l r).openHandleStep l b]) h (by simp [Request.row, typ]) (by rw [typ]; rfl) ?_ ?_)
  · exact ⟨_, by rw [payload, parseHandle, withFormat, State.touch_take, refusal.still]⟩
  · rw [State.take_store, readGate_eq, if_pos readable, State.take_openHandleStep, refusal.step]
    rfl

/-- What READ in view OWN answers from a staged list, as the statements give it. -/
theorem State.readOwn_reply (s : State) (staged : List Staged) (k : Key) :
    (s.readOwn staged k).status.code :: (s.readOwn staged k).fields = (match staged.find? (fun e => e.key == k) with
      | some ⟨_, .value bytes, base⟩ => [0x00] ++ be32 (base.getD 0) ++ [0x01] ++ be16Nat bytes.length ++ bytes
      | some ⟨_, .delete, _⟩ => [0x20, 0x02]
      | none => (s.readCommitted k).status.code :: (s.readCommitted k).fields) := by
  rw [State.readOwn, stagedEntry]
  cases staged.find? (fun e => e.key == k) with
  | none => rfl
  | some e =>
    obtain ⟨key, change, base⟩ := e
    cases change <;> rfl

/-- READ in view OWN of a context of the link, which restarts the timer where there is one. -/
theorem readOwn_of_own {u : State} {h : Handle} {c : Context} {k : Key} (serves : s.serving l r) (readable : s.store.readable = true)
    (typ : r.typ = 0x10) (payload : r.payload = be16 k ++ [1, b]) (user : userKey k) (own : s.ownContext l b = some (h, c))
    (touched : s.touch l b = u) :
    exec .readOwn s = .next (u.answered l r ((s.readOwn c.staged k).status.code :: (s.readOwn c.staged k).fields)) := by
  refine congrArg Host.Outcome.next (State.serve_answered serves (Request.row_of_readOwn typ payload) (by rw [typ]; rfl) ?_)
  rw [payload, parseReadOwn_layout]
  have pass : firstRefusal [userKeyStep k, readGate (s.take l r).store, (s.take l r).handleStep l b] = none := by
    rw [userKeyStep_of_userKey user, State.take_store, readGate_eq, if_pos readable, State.take_handleStep, State.handleStep_of_own own]
    rfl
  refine (withChecks_pass pass _ _).trans (Prod.ext ?_ ?_)
  · exact (s.touch_take l r l b).trans (congrArg (State.take · l r) touched)
  · have named : (s.take l r).ownStaged l b = c.staged := by rw [State.ownStaged, State.take_ownContext, own]
    rw [named]
    cases l <;> rfl

end

/-- Settles O52: a handle that names no context of the link is refused before a timer restarts; a COMMITTING context has no timer to restart. -/
theorem handleStepByTheContext : Obligations.HandleStepByTheContext := by
  intro s l r b wp serves readable staging unstaging reading
  constructor
  · intro other
    have others : ∀ h, handleOf b = some h → (s.context h).owner ≠ some l := fun h handle => other h ((handleOf_eq_some b h).mp handle)
    have unowned := State.ownContext_of_none others
    have refusal : s.HandleRefused l b .badHandle := ⟨State.openHandleStep_of_none unowned, State.touch_of_other others⟩
    refine ⟨?stage, ?unstage, ?read, commit_of_handleRefused refusal serves readable wp, abort_of_handleRefused refusal serves readable, ?info⟩
    case stage =>
      rintro ⟨typ, k, kind, v, user, short, kinds, payload⟩
      exact stage_of_handleRefused refusal serves readable wp typ user short kinds payload
    case unstage =>
      rintro ⟨typ, k, low, high, payload⟩
      exact unstage_of_handleRefused refusal serves readable typ low high payload
    case read =>
      rintro k ⟨typ, user, payload⟩
      refine congrArg Host.Outcome.next (State.serve_refused (u := s) (e := .badHandle)
        (checks := [userKeyStep k, readGate (s.take l r).store, (s.take l r).handleStep l b]) serves (Request.row_of_readOwn typ payload)
        (by rw [typ]; rfl) ?_ ?_)
      · exact ⟨_, by rw [payload, parseReadOwn_layout, withFormat, State.touch_take, refusal.still]⟩
      · rw [userKeyStep_of_userKey user, State.take_store, readGate_eq, if_pos readable, State.take_handleStep, State.handleStep_of_none unowned]
        rfl
    case info =>
      intro typ payload
      refine congrArg Host.Outcome.next (State.serve_refused (u := s) (e := .badHandle)
        (checks := [readGate (s.take l r).store, (s.take l r).handleStep l b]) serves (by simp [Request.row, typ]) (by rw [typ]; rfl) ?_ ?_)
      · exact ⟨_, by rw [payload, parseHandle, withFormat, State.touch_take, refusal.still]⟩
      · rw [State.take_store, readGate_eq, if_pos readable, State.take_handleStep, State.handleStep_of_none unowned]
        rfl
  · intro h timeout staged ticket number committing
    have handle : handleOf b = some h := (handleOf_eq_some b h).mpr number
    have own : s.ownContext l b = some (h, .committing l timeout staged ticket) := by
      rw [State.ownContext_of_owner handle (by rw [committing]; rfl), committing]
    have refusal : s.HandleRefused l b .txnState := ⟨State.openHandleStep_of_own own, State.touch_of_committing handle committing⟩
    refine ⟨?stage, ?unstage, commit_of_handleRefused refusal serves readable wp, abort_of_handleRefused refusal serves readable, ?read⟩
    case stage =>
      rintro ⟨typ, k, kind, v, user, short, kinds, payload⟩
      exact stage_of_handleRefused refusal serves readable wp typ user short kinds payload
    case unstage =>
      rintro ⟨typ, k, low, high, payload⟩
      exact unstage_of_handleRefused refusal serves readable typ low high payload
    case read =>
      rintro k ⟨typ, user, payload⟩
      rw [readOwn_of_own serves readable typ payload user own refusal.still]
      exact congrArg (fun fields => Host.Outcome.next (s.answered l r fields)) (s.readOwn_reply staged k)

end Sys2Proof.Machine
end

section
/-! PROOFS. Requests in an OPEN context of the link: STAGE, UNSTAGE, ABORT, COMMIT, READ in view OWN and TXNINFO (R27 to R46). -/

namespace Sys2Proof.Machine

/-! ### An OPEN context of the link -/

section
variable {s : State} {l : Link} {h : Handle} {timeout idle : Nat} {staged : List Staged}

theorem State.ownContext_of_opened (opened : s.context h = .opened l timeout idle staged) :
    s.ownContext l (BitVec.ofNat 8 (h.val + 1)) = some (h, .opened l timeout idle staged) := by
  rw [State.ownContext_of_owner (handleOf_code h) (by rw [opened]; rfl), opened]

theorem State.openHandleStep_of_opened (opened : s.context h = .opened l timeout idle staged) :
    s.openHandleStep l (BitVec.ofNat 8 (h.val + 1)) = none :=
  State.openHandleStep_of_own (State.ownContext_of_opened opened)

/-- A context that is set twice has the second content. -/
theorem State.setContext_setContext (s : State) (h : Handle) (c d : Context) : (s.setContext h c).setContext h d = s.setContext h d := by
  have same : (s.contexts.set h c).set h d = s.contexts.set h d := Vector.set_set ..
  simp only [State.setContext, same]

/-- The timer's restart in an OPEN context of the link may come before the request is taken. -/
theorem State.touch_take_of_opened (r : Request) (opened : s.context h = .opened l timeout idle staged) :
    (s.take l r).touch l (BitVec.ofNat 8 (h.val + 1)) = (s.setContext h (.opened l timeout 0 staged)).take l r := by
  rw [State.touch_take, State.touch_of_opened (handleOf_code h) opened]

end

/-! ### STAGE (R27 to R30) -/

/-- The base generation, units and place of an entry are those of the statements. -/
theorem stagedEntry_isNone (staged : List Staged) (k : Key) : (stagedEntry staged k).isNone = !staged.any (fun e => e.key == k) := by
  rw [stagedEntry, Bool.eq_iff_iff]
  simp

theorem ownUnits_eq (staged : List Staged) (k : Key) :
    ownUnits staged k = (match staged.find? (fun e => e.key == k) with
      | some ⟨_, .value bytes, _⟩ => (bytes.length + 15) / 16
      | _ => 0) := by
  rw [ownUnits, stagedEntry]
  cases staged.find? (fun e => e.key == k) with
  | none => rfl
  | some e =>
    obtain ⟨key, change, base⟩ := e
    cases change <;> rfl

theorem placeStaged_eq (e : Staged) (staged : List Staged) :
    placeStaged e staged
      = if staged.any (fun d => d.key == e.key) then staged.map (fun d => if d.key = e.key then e else d) else staged ++ [e] := by
  have listed : (stagedEntry staged e.key).isSome = staged.any (fun d => d.key == e.key) := by
    rw [← Option.not_isNone, stagedEntry_isNone, Bool.not_not]
  rw [placeStaged, listed]
  simp

/-- A key may be staged by a context unless another holds it. -/
theorem State.stageable_eq (s : State) (h : Handle) (k : Key) :
    (!s.stageable (BitVec.ofNat 8 (h.val + 1)) k) = decide (s.holder k ≠ none ∧ s.holder k ≠ some (.context h)) := by
  rw [State.stageable, handleOf_code]
  cases s.holder k with
  | none => rfl
  | some owner => cases owner <;> simp

theorem Decides.presence (s : State) (k : Key) (c : Change) :
    Decides [s.presenceStep k c] [(decide (c = .delete) && !(s.lookup k).any (fun e => e.state == .live), 0x20)] := by
  cases c with
  | value v => rfl
  | delete => exact Decides.of_refuseIf _ .notFound

/-- The steps of STAGE from its zone step on (R27). -/
theorem Decides.stage {s : State} {l : Link} {h : Handle} {timeout idle : Nat} {staged : List Staged} (wp : Wp) (k : Key) (c : Change)
    (user : userKey k) (readable : s.store.readable = true) (opened : s.context h = .opened l timeout idle staged) :
    Decides (s.stageChecks l wp (BitVec.ofNat 8 (h.val + 1)) k c)
      [(decide (s.writeCheck l wp k = some .frozen), 0x51), (decide (s.writeCheck l wp k = some .isProtected), 0x50),
        (decide (s.holder k ≠ none ∧ s.holder k ≠ some (.context h)), 0x21),
        (decide (c = .delete) && !(s.lookup k).any (fun e => e.state == .live), 0x20),
        (!staged.any (fun e => e.key == k) && decide (16 ≤ staged.length), 0x33),
        (decide (s.poolFree + ownUnits staged k < c.units), 0x34)] := by
  have named : s.namedStaged (BitVec.ofNat 8 (h.val + 1)) = staged := by
    rw [State.namedStaged, handleOf_code]
    exact congrArg Context.staged opened
  rw [State.stageChecks, named, State.stageable_eq]
  refine .of_none (userKeyStep_of_userKey user) (.of_none (by rw [Machine.readGate_eq, if_pos readable])
    (.of_none (State.openHandleStep_of_opened opened) ((Decides.writeCheck s l wp k).cons ((Decides.of_refuseIf _ .keyHeld).cons
      ((Decides.presence s k c).cons ?_)))))
  rw [roomStep, stagedEntry_isNone]
  exact (Decides.of_refuseIf _ .txnFull).cons (.of_refuseIf _ .poolFull)

theorem State.take_stageChecks (s : State) (m : Link) (q : Request) (l : Link) (wp : Wp) (b : Byte) (k : Key) (c : Change) :
    (s.take m q).stageChecks l wp b k c = s.stageChecks l wp b k c := by
  cases m <;> rfl

theorem State.take_stage (s : State) (m : Link) (q : Request) (h : Handle) (k : Key) (c : Change) :
    (s.take m q).stage h k c = (s.stage h k c).take m q := by
  cases m <;> rfl

/-- A taken STAGE in an OPEN context whose timer has restarted. -/
theorem State.stage_of_opened {s : State} {l : Link} {h : Handle} {timeout : Nat} {staged : List Staged} (k : Key) (c : Change) :
    (s.setContext h (.opened l timeout 0 staged)).stage h k c
      = ({ s with
          holds := s.holds.filter (fun p => decide (p.1 ≠ k)) ++ [(k, .context h)]
          poolFree := s.poolFree + ownUnits staged k - c.units } : State).setContext h
            (.opened l timeout 0 (placeStaged ⟨k, c, (s.lookup k).map (·.generation)⟩ staged)) := by
  have holds : s.holds.filter (fun p => !(p.1 == k)) = s.holds.filter (fun p => decide (p.1 ≠ k)) :=
    congrArg (List.filter · s.holds) (funext fun p => by simp [Bool.beq_eq_decide_eq])
  rw [State.stage, State.stagedAfter, State.context_setContext_same, ← holds]
  exact State.setContext_setContext
    ({ s with poolFree := s.poolFree + ownUnits staged k - c.units }.takeHold k (.context h)) h _ _

/-- Settles O53: the timer has restarted when the checks decide; the entry a taken STAGE places is built from the key's entry. -/
theorem stageByItsSteps : Obligations.StageByItsSteps := by
  intro s l r wp k c v h timeout idle staged serves typ change short payload user readable opened units old entry listed after
  have row : r.row = .stage := by simp [Request.row, typ]
  have bit : replyType r.typ = r.typ + 0x80 := by rw [typ]; rfl
  have parse : parseStage r.payload = .ok (BitVec.ofNat 8 (h.val + 1), k, c) := by
    rw [payload]
    rcases change with rfl | ⟨rfl, rfl⟩
    · exact parseStage_value _ k v short
    · exact parseStage_delete _ k
  have size : c.units = units := by
    rcases change with rfl | ⟨rfl, rfl⟩ <;> rfl
  have decides := Decides.stage wp k c user readable opened
  rw [size, ownUnits_eq] at decides
  refine congrArg Host.Outcome.next ((State.serve_steps (u := s.setContext h (.opened l timeout 0 staged))
    (v := (s.setContext h (.opened l timeout 0 staged)).stage h k c)
    (reply := ((s.setContext h (.opened l timeout 0 staged)).stage h k c).stageReply h) serves row bit decides
    (by rw [parse, withFormat, State.touch_take_of_opened r opened, State.take_stageChecks]) (fun _ => ?_)).trans ?_)
  · rw [State.stageAt, handleOf_code]
    dsimp only
    rw [State.take_stage]
    cases l <;> rfl
  · generalize firstOf _ = refusal
    cases refusal with
    | some code => rfl
    | none =>
      rw [State.stage_of_opened, State.stageReply, State.context_setContext_same, size, ownUnits_eq, placeStaged_eq]
      rfl

/-! ### UNSTAGE and ABORT (R36, R37) -/

theorem stagedUnits_eq (staged : List Staged) :
    stagedUnits staged = (staged.map (fun e => match e.change with
      | .value bytes => (bytes.length + 15) / 16
      | .delete => 0)).sum := by
  refine congrArg List.sum (List.map_congr_left fun e _ => ?_)
  cases e.change <;> rfl

/-- A context that becomes FREE after its timer has restarted. -/
theorem State.freeContext_of_opened {s : State} {l : Link} {h : Handle} {timeout : Nat} {staged : List Staged} :
    (s.setContext h (.opened l timeout 0 staged)).freeContext h
      = ({ s with
          holds := s.holds.filter (fun p => decide (p.2 ≠ .context h))
          poolFree := s.poolFree + stagedUnits staged } : State).setContext h .free := by
  have holds : s.holds.filter (fun p => !(p.2 == .context h)) = s.holds.filter (fun p => decide (p.2 ≠ .context h)) :=
    congrArg (List.filter · s.holds) (funext fun p => by simp [Bool.beq_eq_decide_eq])
  rw [State.freeContext, State.context_setContext_same, ← holds]
  exact State.setContext_setContext
    ({ s with poolFree := s.poolFree + stagedUnits staged }.releaseHolder (.context h)) h _ _

/-- A taken UNSTAGE in an OPEN context whose timer has restarted. -/
theorem State.unstage_of_opened {s : State} {l : Link} {h : Handle} {timeout : Nat} {staged : List Staged} (k : Key) :
    (s.setContext h (.opened l timeout 0 staged)).unstage h k
      = ({ s with
          holds := s.holds.filter (fun p => decide (p.1 ≠ k))
          poolFree := s.poolFree + ownUnits staged k } : State).setContext h
            (.opened l timeout 0 (staged.filter (fun d => decide (d.key ≠ k)))) := by
  have holds : s.holds.filter (fun p => !(p.1 == k)) = s.holds.filter (fun p => decide (p.1 ≠ k)) :=
    congrArg (List.filter · s.holds) (funext fun p => by simp [Bool.beq_eq_decide_eq])
  have left' : staged.filter (fun d => !(d.key == k)) = staged.filter (fun d => decide (d.key ≠ k)) :=
    congrArg (List.filter · staged) (funext fun p => by simp [Bool.beq_eq_decide_eq])
  rw [State.unstage, State.context_setContext_same, ← holds, ← left']
  exact State.setContext_setContext ({ s with poolFree := s.poolFree + ownUnits staged k }.releaseKey k) h _ _

theorem State.take_unstage (s : State) (m : Link) (q : Request) (h : Handle) (k : Key) :
    (s.take m q).unstage h k = (s.unstage h k).take m q := by
  cases m <;> rfl

/-- Settles O54: what UNSTAGE and ABORT give back is what the context whose timer has restarted holds. -/
theorem unstageAndAbortGiveBack : Obligations.UnstageAndAbortGiveBack := by
  intro s l r h timeout idle staged serves readable opened
  have touched := State.touch_take_of_opened r opened
  have named : (s.take l r).namedStaged (BitVec.ofNat 8 (h.val + 1)) = staged := by
    rw [State.namedStaged, handleOf_code]
    exact congrArg Context.staged ((s.take_context l r h).trans opened)
  refine ⟨?unstage, ?abort⟩
  case unstage =>
    intro k typ payload low high
    have row : r.row = .unstage := by simp [Request.row, typ]
    have bit : replyType r.typ = r.typ + 0x80 := by rw [typ]; rfl
    have parse : parseHandleKey r.payload = .ok (BitVec.ofNat 8 (h.val + 1), k) := by rw [payload, parseHandleKey_layout]
    have checks : firstRefusal ((s.take l r).unstageChecks l (BitVec.ofNat 8 (h.val + 1)) k)
        = refuseIf (stagedEntry staged k).isNone .notFound := by
      simp only [State.unstageChecks, firstRefusal_cons, anyKeyStep_eq, if_neg (not_or.mpr ⟨low, high⟩), State.take_store, readGate_eq,
        if_pos readable, State.take_openHandleStep, State.openHandleStep_of_opened opened, named, Option.none_or]
      exact Option.or_none
    constructor
    · intro absent
      refine congrArg Host.Outcome.next (State.serve_refused (u := s.setContext h (.opened l timeout 0 staged)) (e := .notFound) serves row bit
        ⟨_, by rw [parse, withFormat, touched]⟩ ?_)
      rw [checks, stagedEntry, absent]
      rfl
    · intro e found left'
      have units : ownUnits staged k = e.change.units := by rw [ownUnits, stagedEntry, found]
      refine congrArg Host.Outcome.next ((State.serve_answered (u := (s.setContext h (.opened l timeout 0 staged)).unstage h k)
        (reply := ⟨.ok, [byteOf (((s.setContext h (.opened l timeout 0 staged)).unstage h k).context h).staged.length]⟩) serves row bit ?_).trans ?_)
      · rw [parse, withFormat, touched, withChecks_pass (by rw [checks, stagedEntry, found]; rfl), State.unstageAt, handleOf_code]
        dsimp only
        rw [State.take_unstage, State.take_context]
      · rw [State.unstage_of_opened, State.context_setContext_same, units]
        obtain ⟨key, change, base⟩ := e
        cases change <;> rfl
  case abort =>
    intro typ payload
    have row : r.row = .abort := by simp [Request.row, typ]
    have pass : firstRefusal [readGate (s.take l r).store, (s.take l r).openHandleStep l (BitVec.ofNat 8 (h.val + 1))] = none := by
      rw [State.take_store, readGate_eq, if_pos readable, State.take_openHandleStep, State.openHandleStep_of_opened opened]
      rfl
    refine congrArg Host.Outcome.next ((State.serve_answered (u := (s.setContext h (.opened l timeout 0 staged)).freeContext h)
      (reply := ⟨.ok, []⟩) serves row (by rw [typ]; rfl) ?_).trans ((congrArg (State.answered · l r [0x00]) State.freeContext_of_opened).trans
        (congrArg (fun units => State.answered (State.setContext
          { s with holds := s.holds.filter (fun p => decide (p.2 ≠ .context h)), poolFree := s.poolFree + units } h .free) l r [0x00])
          (stagedUnits_eq staged))))
    rw [payload, parseHandle, withFormat, touched, withChecks_pass pass, State.abortAt, handleOf_code]
    exact congrArg (·, _) (State.freeContext_take ..)

/-! ### COMMIT (R41 to R43) -/

theorem commitLines_eq (staged : List Staged) :
    commitLines staged = (staged.map (fun e => match e.change with
      | .value bytes => 1 + (bytes.length + 15) / 16
      | .delete => 1)).sum + (if 2 ≤ staged.length then 1 else 0) := by
  refine congrArg (List.sum · + _) (List.map_congr_left fun e _ => ?_)
  cases e.change <;> rfl

theorem State.commitSlots_eq (s : State) (staged : List Staged) :
    s.commitSlots staged = staged.countP (fun e => decide (e.change ≠ .delete) && (s.lookup e.key).isNone) := by
  induction staged with
  | nil => rfl
  | cons e rest ih =>
    have step : s.commitSlots (e :: rest) = (match e.change with
        | .value _ => s.slotsFor e.key
        | .delete => 0) + s.commitSlots rest := rfl
    rw [step, ih, List.countP_cons, Nat.add_comm]
    cases e.change <;> simp [State.slotsFor]

theorem State.zoneRecheck_values (s : State) (l : Link) (wp : Wp) (staged : List Staged) :
    s.zoneRecheck l wp staged = none ∨ s.zoneRecheck l wp staged = some .frozen ∨ s.zoneRecheck l wp staged = some .isProtected := by
  cases found : s.zoneRecheck l wp staged with
  | none => exact .inl rfl
  | some e =>
    obtain ⟨entry, -, decided⟩ := List.exists_of_findSome?_eq_some found
    rw [← decided]
    exact s.writeCheck_values l wp entry.key

/-- The steps of COMMIT from the supply on (R41). -/
theorem Decides.commit {s : State} {l : Link} {wp : Wp} {staged : List Staged} (readable : s.store.readable = true) {lines slots : Nat}
    {zone : Option Status} (lines_eq : commitLines staged = lines) (slots_eq : s.commitSlots staged = slots)
    (zone_eq : s.zoneRecheck l wp staged = zone) :
    Decides (s.commitChecks l wp staged)
      [(decide (s.supply = .low), 0x41), (decide (s.store ≠ .ready), 0x42),
        (decide (zone = some .frozen), 0x51), (decide (zone = some .isProtected), 0x50),
        (decide (s.liveCapacity < s.liveLines + s.reservedLines + lines), 0x23),
        (decide (512 < s.directory.length + s.slotReservations + slots), 0x22),
        (decide (8 ≤ s.queue.length ∨ ∃ j ∈ s.queue, j.work = .format), 0x40)] := by
  subst lines_eq slots_eq zone_eq
  have gate : Machine.writeGate s.store = if s.store ≠ .ready then some .readOnly else none := by
    rw [Machine.writeGate_eq, if_pos readable, ite_not]
  exact (Decides.supplyStep s.supply).cons ((Decides.of_iff .readOnly gate).cons
    ((Decides.of_values (s.zoneRecheck_values l wp staged) (by decide)).cons ((Decides.lacksLines s _).cons
      ((Decides.lacksSlots s _).cons (.queueStep s)))))

theorem State.take_commitChecks (s : State) (m : Link) (q : Request) (l : Link) (wp : Wp) (staged : List Staged) :
    (s.take m q).commitChecks l wp staged = s.commitChecks l wp staged := by
  cases m <;> rfl

theorem State.take_acceptCommit (s : State) (m : Link) (q : Request) (l : Link) (h : Handle) :
    (s.take m q).acceptCommit l h = (s.acceptCommit l h).take m q := by
  cases m <;> rfl

/-- An accepted COMMIT of an OPEN context whose timer has restarted. -/
theorem State.acceptCommit_of_opened {s : State} {l m : Link} {h : Handle} {timeout : Nat} {staged : List Staged} :
    (s.setContext h (.opened m timeout 0 staged)).acceptCommit l h
      = ({ s with
          queue := s.queue ++ [⟨s.nextTicket, .commit h, l, commitLines staged, s.commitSlots staged⟩]
          nextTicket := ticketAfter s.nextTicket
          reservedLines := s.reservedLines + commitLines staged
          slotReservations := s.slotReservations + s.commitSlots staged } : State).setContext h
            (.committing m timeout staged s.nextTicket) := by
  rw [State.acceptCommit, State.context_setContext_same, State.setContext_setContext]
  rfl

/-- Settles O55: past the handle step an empty list frees the context, and any other meets the remaining checks. -/
theorem commitByItsSteps : Obligations.CommitByItsSteps := by
  intro s l r wp h timeout idle staged serves typ payload readable opened
  have row : r.row = .commit := by simp [Request.row, typ]
  have bit : replyType r.typ = r.typ + 0x80 := by rw [typ]; rfl
  have first : firstRefusal ((s.take l r).commitFirstChecks l (BitVec.ofNat 8 (h.val + 1))) = none := by
    rw [State.commitFirstChecks_of_readable (by rwa [State.take_store]), State.take_openHandleStep, State.openHandleStep_of_opened opened]
  have acts : withFormat (parseHandle r.payload) (s.take l r) (fun b =>
        withChecks ((s.take l r).commitFirstChecks l b) ((s.take l r).touch l b) (((s.take l r).touch l b).commitAt l wp b))
      = if staged.isEmpty then (((s.setContext h (.opened l timeout 0 staged)).take l r).freeContext h, ⟨.ok, []⟩)
        else withChecks ((s.setContext h (.opened l timeout 0 staged)).commitChecks l wp staged)
          ((s.setContext h (.opened l timeout 0 staged)).take l r)
          (((s.setContext h (.opened l timeout 0 staged)).acceptCommit l h).take l r, acceptedReply s.nextTicket) := by
    rw [payload, parseHandle, withFormat, withChecks_pass first, State.touch_take_of_opened r opened, State.commitAt, handleOf_code]
    dsimp only
    rw [State.take_context, State.context_setContext_same, State.take_commitChecks, State.take_acceptCommit, State.take_nextTicket]
    rfl
  constructor
  · rintro rfl
    refine congrArg Host.Outcome.next ((State.serve_answered (u := (s.setContext h (.opened l timeout 0 [])).freeContext h)
      (reply := ⟨.ok, []⟩) serves row bit ?_).trans ?_)
    · exact acts.trans (congrArg (·, _) (State.freeContext_take ..))
    · rw [State.freeContext_of_opened]
      rfl
  · intro listed lines slots zone
    have lines_eq : commitLines staged = lines := commitLines_eq staged
    have slots_eq : s.commitSlots staged = slots := s.commitSlots_eq staged
    have decides := Decides.commit (l := l) (wp := wp) readable lines_eq slots_eq (zone := zone) rfl
    refine congrArg Host.Outcome.next ((State.serve_steps (u := s.setContext h (.opened l timeout 0 staged))
      (v := (s.setContext h (.opened l timeout 0 staged)).acceptCommit l h) (reply := acceptedReply s.nextTicket) serves row bit decides
      (acts.trans (if_neg (by simpa using listed))) (fun _ => rfl)).trans ?_)
    generalize firstOf _ = refusal
    cases refusal with
    | some code => rfl
    | none =>
      rw [State.acceptCommit_of_opened, slots_eq, lines_eq]
      rfl

/-! ### READ in view OWN and TXNINFO (R45, R46) -/

/-- The staged entries of a TXNINFO reply. -/
theorem flatMap_report (staged : List Staged) :
    staged.flatMap Staged.report = staged.flatMap (fun e =>
      be16 e.key
        ++ (match e.change with
          | .value bytes => [0x00] ++ be16Nat bytes.length
          | .delete => [0x01, 0x00, 0x00])
        ++ (match e.base with
          | some g => [0x01] ++ be32 g
          | none => [0x00, 0x00, 0x00, 0x00, 0x00])) := by
  refine congrArg (List.flatMap · staged) (funext fun e => ?_)
  obtain ⟨key, change, base⟩ := e
  cases change <;> cases base <;> rfl

/-- TXNINFO of a context of the link, whose timer restarts where it runs. -/
theorem txninfo_of_own {s u : State} {l : Link} {r : Request} {h : Handle} {c : Context} (serves : s.serving l r)
    (readable : s.store.readable = true) (typ : r.typ = 0x25) (payload : r.payload = [BitVec.ofNat 8 (h.val + 1)]) (context : s.context h = c)
    (own : c.owner = some l) (touched : s.touch l (BitVec.ofNat 8 (h.val + 1)) = u) :
    exec .txninfo s = .next (u.answered l r (0x00 :: c.txninfo.fields)) := by
  have pass : firstRefusal [readGate (s.take l r).store, (s.take l r).handleStep l (BitVec.ofNat 8 (h.val + 1))] = none := by
    rw [State.take_store, readGate_eq, if_pos readable, State.take_handleStep,
      State.handleStep_of_own (State.ownContext_of_owner (handleOf_code h) (by rw [context]; exact own))]
    rfl
  refine congrArg Host.Outcome.next (State.serve_answered (reply := c.txninfo) serves (by simp [Request.row, typ]) (by rw [typ]; rfl) ?_)
  rw [payload, parseHandle, withFormat, withChecks_pass pass, State.touch_take, touched, State.txninfoAt, handleOf_code]
  exact congrArg (u.take l r, Context.txninfo ·) ((s.take_context l r h).trans context)

/-- Settles O56: READ looks at the staged list before the committed view, and TXNINFO reads the timer before it restarts. -/
theorem ownViewAndTxninfoShowTheContext : Obligations.OwnViewAndTxninfoShowTheContext := by
  intro s l r h timeout staged serves readable entries
  have listed : entries = [byteOf staged.length] ++ staged.flatMap Staged.report :=
    congrArg ([byteOf staged.length] ++ ·) (flatMap_report staged).symm
  constructor
  · intro idle opened
    have touched := State.touch_of_opened (handleOf_code h) opened
    constructor
    · intro k typ payload user
      rw [readOwn_of_own serves readable typ payload user (State.ownContext_of_opened opened) touched]
      exact congrArg (fun fields => Host.Outcome.next ((s.setContext h (.opened l timeout 0 staged)).answered l r fields)) (s.readOwn_reply staged k)
    · intro typ payload
      rw [txninfo_of_own serves readable typ payload opened rfl touched, listed]
      rfl
  · intro ticket committing typ payload
    rw [txninfo_of_own serves readable typ payload committing rfl (State.touch_of_committing (handleOf_code h) committing), listed]
    rfl

end Sys2Proof.Machine
end

section
/-! PROOFS. ZONE_SET by its steps (R136, R137), and the jobs on the whole store, RECLAIM and FORMAT (R179, R180). -/

namespace Sys2Proof.Machine

/-! ### The checks of ZONE_SET (R136) -/

theorem State.zoneUpdateOutstanding_eq (s : State) :
    s.zoneUpdateOutstanding = (s.queue.any Job.isZoneUpdate || s.running.any (fun q => q.job.isZoneUpdate)) := by
  rw [State.zoneUpdateOutstanding, State.zoneUpdateRunning]
  cases s.running <;> rfl

theorem State.frozenAt_eq (s : State) (i : Fin 8) : s.frozenAt i = (s.zones[i]).any (·.frozen) := by
  rw [State.frozenAt]
  cases s.zones[i] <;> rfl

theorem State.overlapsOther_eq (s : State) (i : Fin 8) (z : Zone) :
    s.overlapsOther i z = (List.finRange 8).any (fun j => decide (j ≠ i) && (s.zones[j]).any (fun w =>
      decide (z.low.toNat ≤ w.high.toNat ∧ w.low.toNat ≤ z.high.toNat))) := by
  rw [State.overlapsOther]
  refine congrArg (List.any (List.finRange 8)) (funext fun j => congrArg (decide (j ≠ i) && ·) ?_)
  cases s.zones[j] with
  | none => rfl
  | some w => simp [Zone.overlaps]

theorem Decides.zoneKeyStep (z : Zone) :
    Decides [zoneKeyStep z] [(decide (z.low = 0 ∨ z.low = 0xFFFF ∨ z.high = 0 ∨ z.high = 0xFFFF), 0x12),
      (decide (0xFF00 ≤ z.low.toNat ∨ 0xFF00 ≤ z.high.toNat), 0x13)] := by
  refine .of_two .badKey .reservedKey ?_
  unfold Machine.zoneKeyStep
  by_cases invalid : z.low = 0 ∨ z.low = 0xFFFF ∨ z.high = 0 ∨ z.high = 0xFFFF
  · rw [if_pos invalid, if_pos]
    simpa [invalidKey, or_assoc] using invalid
  · have valid (k : Key) (low : k ≠ 0) (high : k ≠ 0xFFFF) : reservedKey k = decide (0xFF00 ≤ k.toNat) := by
      have ends : k.toNat ≠ 0xFFFF := fun e => high (BitVec.eq_of_toNat_eq (by simpa using e))
      have bound : k.toNat ≤ 0xFFFE := by omega
      simp [reservedKey, bound]
    have apart := invalid
    simp only [not_or] at apart
    obtain ⟨low0, lowF, high0, highF⟩ := apart
    rw [if_neg invalid, if_neg (by simpa [invalidKey, or_assoc] using invalid), valid z.low low0 lowF, valid z.high high0 highF]
    simp

theorem Decides.zoneSetGate (s : State) (wp : Wp) (i : Fin 8) :
    Decides (s.zoneSetGate wp i)
      [(decide (s.store ≠ .ready ∧ s.store.readable = true), 0x42), (decide (s.store.readable = false), 0x43),
        (decide (s.supply = .low), 0x41),
        (s.queue.any Job.isZoneUpdate || s.running.any (fun q => q.job.isZoneUpdate), 0x44),
        ((s.zones[i]).any (·.frozen), 0x51), (decide (wp = .asserted), 0x50)] := by
  rw [State.zoneSetGate, State.zoneUpdateOutstanding_eq, State.frozenAt_eq]
  exact (Decides.writeGate s.store).cons ((Decides.supplyStep s.supply).cons ((Decides.of_refuseIf _ .busy).cons
    ((Decides.of_refuseIf _ .frozen).cons (.of_refuseIf _ .isProtected))))

theorem Decides.zoneSetResources (s : State) :
    Decides s.zoneSetResources
      [(decide (s.liveCapacity < s.liveLines + s.reservedLines + 5), 0x23),
        (decide (512 < s.directory.length + s.slotReservations + s.slotsFor Config.zoneKey), 0x22),
        (decide (8 ≤ s.queue.length ∨ ∃ j ∈ s.queue, j.work = .format), 0x40)] :=
  (Decides.lacksLines s 5).cons ((Decides.lacksSlots s _).cons (.queueStep s))

/-! ### The payloads of ZONE_SET (R183) -/

theorem parseIndex_code (i : Fin 8) : parseIndex (BitVec.ofNat 8 i.val) = .ok i := by
  have same : (BitVec.ofNat 8 i.val).toNat = i.val := by rw [BitVec.toNat_ofNat]; omega
  rw [parseIndex, dif_pos (by omega)]
  exact congrArg Except.ok (Fin.ext same)

theorem isYesNo_code (b : Bool) : isYesNo (BitVec.ofNat 8 b.toNat) = true := by
  cases b <;> rfl

theorem yesNo_code (b : Bool) : decide ((BitVec.ofNat 8 b.toNat : Byte) = 1) = b := by
  cases b <;> rfl

/-- The format step reads a zone back from its fields. -/
theorem parseZoneDefine_layout (i : Fin 8) (z : Zone) (range : z.low.toNat ≤ z.high.toNat) :
    parseZoneDefine ([BitVec.ofNat 8 i.val, 0x00] ++ be16 z.low ++ be16 z.high
      ++ [BitVec.ofNat 8 z.link0Write.toNat, BitVec.ofNat 8 z.link1Write.toNat, BitVec.ofNat 8 z.guarded.toNat,
        BitVec.ofNat 8 z.frozen.toNat]) = .ok (i, z) := by
  simp only [be16, List.cons_append, List.nil_append, parseZoneDefine, word16_extract, isYesNo_code, yesNo_code, parseIndex_code]
  rw [if_pos ⟨trivial, rfl, range⟩]
  rfl

theorem parseZoneClear_layout (i : Fin 8) : parseZoneClear [BitVec.ofNat 8 i.val, 0x01] = .ok i := by
  rw [parseZoneClear, if_pos rfl, parseIndex_code]

/-! ### The acceptance of ZONE_SET (R137) -/

theorem State.take_zoneDefineChecks (s : State) (l : Link) (r : Request) (wp : Wp) (i : Fin 8) (z : Zone) :
    (s.take l r).zoneDefineChecks wp i z = s.zoneDefineChecks wp i z := by
  cases l <;> rfl

theorem State.take_zoneClearChecks (s : State) (l : Link) (r : Request) (wp : Wp) (i : Fin 8) :
    (s.take l r).zoneClearChecks wp i = s.zoneClearChecks wp i := by
  cases l <;> rfl

theorem State.take_acceptZoneSet (s : State) (m : Link) (q : Request) (l : Link) (i : Fin 8) (z : Option Zone) :
    (s.take m q).acceptZoneSet l i z = (s.acceptZoneSet l i z).take m q := by
  cases m <;> rfl

/-- Settles O59: the checks of both ops decide as the steps say, and the accepted job carries the table with one zone set. -/
theorem zoneSetByItsSteps : Obligations.ZoneSetByItsSteps := by
  intro s l r wp i z serves typ slots gate resources accepted
  have bit : replyType r.typ = r.typ + 0x80 := by rw [typ]; rfl
  have gates : Decides (s.zoneSetGate wp i) gate := Decides.zoneSetGate s wp i
  have needs : Decides s.zoneSetResources resources := Decides.zoneSetResources s
  constructor
  · intro payload range
    have row : r.row = .zoneSetDefine := by
      rw [Request.row, typ, payload]
      rfl
    have overlap : Decides [refuseIf (s.overlapsOther i z) .zoneOverlap] [(s.overlapsOther i z, 0x52)] := .of_refuseIf _ .zoneOverlap
    have decides : Decides (s.zoneDefineChecks wp i z) _ := (((Decides.zoneKeyStep z).append gates).append overlap).append needs
    rw [State.overlapsOther_eq] at decides
    refine congrArg Host.Outcome.next ((State.serve_steps (v := s.acceptZoneSet l i (some z)) (reply := acceptedReply s.nextTicket) serves row bit
      decides (by rw [payload, parseZoneDefine_layout i z range, withFormat, State.take_zoneDefineChecks])
      (fun _ => by rw [State.take_acceptZoneSet, State.take_nextTicket])).trans ?_)
    generalize firstOf _ = refusal
    cases refusal <;> rfl
  · intro payload
    have row : r.row = .zoneSetClear := by
      rw [Request.row, typ, payload]
      rfl
    have decides : Decides (s.zoneClearChecks wp i) _ := gates.append needs
    refine congrArg Host.Outcome.next ((State.serve_steps (v := s.acceptZoneSet l i none) (reply := acceptedReply s.nextTicket) serves row bit
      decides (by rw [payload, parseZoneClear_layout, withFormat, State.take_zoneClearChecks])
      (fun _ => by rw [State.take_acceptZoneSet, State.take_nextTicket])).trans ?_)
    generalize firstOf _ = refusal
    cases refusal <;> rfl

/-! ### RECLAIM and FORMAT (R179, R180) -/

/-- The format step of a request with no payload (R168). -/
theorem parseEmpty_eq (payload : List Byte) : parseEmpty payload = (refuseIf (decide (payload ≠ [])) .badFormat).elim (.ok ()) .error := by
  cases payload <;> rfl

theorem Decides.emptyPayload (payload : List Byte) : Decides [refuseIf (decide (payload ≠ [])) .badFormat] [(decide (payload ≠ []), 0x11)] :=
  .of_refuseIf _ .badFormat

theorem Decides.formatGate (store : Store) :
    Decides [formatGate store] [(decide (store = .mounting), 0x43), (decide (store = .formatting), 0x44)] := by
  cases store <;> rfl

/-- What FORMAT waits for (R180). -/
theorem State.formatBusy_eq (s : State) :
    s.formatBusy = decide ((∃ h : Handle, s.context h ≠ .free) ∨ s.queue ≠ [] ∨ (∃ q, s.running = some q ∧ q.job.isZoneUpdate = true)
      ∨ s.epoch = 0xFFFFFFFF) := by
  have contexts : s.allContextsFree = true ↔ ∀ h : Handle, s.context h = .free := by
    rw [State.allContextsFree, toList_eq_map_finRange]
    simp [State.context]
  have running : s.zoneUpdateRunning = true ↔ ∃ q, s.running = some q ∧ q.job.isZoneUpdate = true := by
    rw [State.zoneUpdateRunning]
    cases s.running <;> simp
  rw [State.formatBusy, Bool.eq_iff_iff, decide_eq_true_iff]
  simp only [Bool.or_eq_true, Bool.not_eq_true', ← Bool.not_eq_true, contexts, running, decide_eq_true_eq, List.isEmpty_iff, Classical.not_forall, or_assoc,
    ne_eq]

theorem State.anyZoneFrozen_eq (s : State) : s.anyZoneFrozen = decide (∃ i : Fin 8, ∃ z, s.zones[i] = some z ∧ z.frozen = true) := by
  rw [State.anyZoneFrozen, toList_eq_map_finRange, Bool.eq_iff_iff, decide_eq_true_iff, List.any_map, List.any_eq_true]
  refine exists_congr fun i => ?_
  rw [and_iff_right (List.mem_finRange i), Function.comp]
  cases s.zones[i] <;> simp

/-- Settles O60: the empty payload is the first step of both; the jobs reserve no line and no slot. -/
theorem storeWideJobsByTheirSteps : Obligations.StoreWideJobsByTheirSteps := by
  intro s l r serves accepted
  constructor
  · intro typ
    have decides : Decides (refuseIf (decide (r.payload ≠ [])) .badFormat :: [writeGate s.store, supplyStep s.supply, s.queueStep])
        [(decide (r.payload ≠ []), 0x11), (decide (s.store ≠ .ready ∧ s.store.readable = true), 0x42),
          (decide (s.store.readable = false), 0x43), (decide (s.supply = .low), 0x41),
          (decide (8 ≤ s.queue.length ∨ ∃ j ∈ s.queue, j.work = .format), 0x40)] :=
      (Decides.emptyPayload r.payload).cons ((Decides.writeGate s.store).cons ((Decides.supplyStep s.supply).cons (.queueStep s)))
    refine congrArg Host.Outcome.next ((State.serve_steps (v := s.acceptJob .reclaimReq l 0 0) (reply := acceptedReply s.nextTicket) serves
      (by simp [Request.row, typ]) (by rw [typ]; rfl) decides (withFormat_eq_withChecks (parseEmpty_eq r.payload)
        (by rw [State.take_store, State.take_supply, State.take_queueStep]))
      (fun _ => by rw [State.acceptJob_take, State.take_nextTicket])).trans ?_)
    generalize firstOf _ = refusal
    cases refusal <;> rfl
  · intro typ
    have decides : Decides (refuseIf (decide (r.payload ≠ [])) .badFormat :: s.formatChecks)
        [(decide (r.payload ≠ []), 0x11), (decide (s.store = .mounting), 0x43), (decide (s.store = .formatting), 0x44),
          (decide (s.supply = .low), 0x41),
          (decide ((∃ h : Handle, s.context h ≠ .free) ∨ s.queue ≠ [] ∨ (∃ q, s.running = some q ∧ q.job.isZoneUpdate = true)
            ∨ s.epoch = 0xFFFFFFFF), 0x44),
          (decide (∃ i : Fin 8, ∃ z, s.zones[i] = some z ∧ z.frozen = true), 0x53)] := by
      rw [State.formatChecks, State.formatBusy_eq, State.anyZoneFrozen_eq]
      exact (Decides.emptyPayload r.payload).cons ((Decides.formatGate s.store).cons ((Decides.supplyStep s.supply).cons
        ((Decides.of_refuseIf _ .busy).cons (.of_refuseIf _ .frozenPresent))))
    refine congrArg Host.Outcome.next ((State.serve_steps (v := s.acceptJob .format l 0 0) (reply := acceptedReply s.nextTicket) serves
      (by simp [Request.row, typ]) (by rw [typ]; rfl) decides (withFormat_eq_withChecks (parseEmpty_eq r.payload)
        (by rw [State.acceptJob_take, State.take_nextTicket]; cases l <;> rfl)) (fun _ => rfl)).trans ?_)
    generalize firstOf _ = refusal
    cases refusal <;> rfl

end Sys2Proof.Machine
end

section
/-! PROOFS. Notices, idle timers and the supply: the offer of a notice (R163), expiries one by one and for all contexts in order of handles
(R38, R39), and the two supply changes (R142 to R150). -/

namespace Sys2Proof.Machine

/-! ### The offer of a notice (R163, R185) -/

theorem Framer.freeSlots_pos (f : Framer) : 0 < f.freeSlots ↔ f.out.length + f.reservations < 16 := by
  have slots : f.freeSlots = 16 - f.out.length - f.reservations := rfl
  omega

/-- A notice that is lost counts up to the highest values of its two counters. -/
theorem Framer.lose_eq (f : Framer) : f.lose = { f with
    lost := if f.lost = 0xFF then 0xFF else f.lost + 1
    lostNotices := if f.lostNotices = 0xFFFFFFFF then 0xFFFFFFFF else f.lostNotices + 1 } := by
  have counted {w : Nat} (c : BitVec w) : saturatingSucc c = if c = BitVec.allOnes w then BitVec.allOnes w else c + 1 := by
    unfold saturatingSucc
    split
    · assumption
    · rfl
  simp only [Framer.lose, counted]
  rfl

theorem Framer.offer_of_disabled {f : Framer} {n : Notice} (disabled : n.enabled f.mask = false) : f.offer n = f := by
  simp [Framer.offer, disabled]

/-- A notice other than a JOB_DONE takes a free unreserved slot or is lost. -/
theorem Framer.offer_of_other {f : Framer} {n : Notice} (other : n.isJobDone = false) (enabled : n.enabled f.mask = true) :
    f.offer n = if f.out.length + f.reservations < 16 then f.enter n else { f with
      lost := if f.lost = 0xFF then 0xFF else f.lost + 1
      lostNotices := if f.lostNotices = 0xFFFFFFFF then 0xFFFFFFFF else f.lostNotices + 1 } := by
  simp only [Framer.offer, other, enabled, if_true, Framer.freeSlots_pos, Framer.lose_eq, Bool.false_eq_true, if_false]

/-- A JOB_DONE takes a free unreserved slot when no JOB_DONE waits before it. -/
theorem Framer.offer_of_jobDone {f : Framer} {n : Notice} (done : n.isJobDone = true) (enabled : n.enabled f.mask = true) :
    f.offer n = if f.backlog = [] ∧ f.out.length + f.reservations < 16 then f.enter n else { f with backlog := f.backlog ++ [n] } := by
  simp only [Framer.offer, done, enabled, if_true, Framer.freeSlots_pos, Bool.and_eq_true, List.isEmpty_iff, decide_eq_true_eq]

/-- A notice other than a JOB_DONE, with the mask bit of its kind. -/
theorem Framer.offer_by_mask {f : Framer} {n : Notice} {bit : Bool} (other : n.isJobDone = false) (mask : n.enabled f.mask = bit) :
    f.offer n = if !bit then f else if f.out.length + f.reservations < 16 then f.enter n else { f with
      lost := if f.lost = 0xFF then 0xFF else f.lost + 1
      lostNotices := if f.lostNotices = 0xFFFFFFFF then 0xFFFFFFFF else f.lostNotices + 1 } := by
  cases bit with
  | true => exact Framer.offer_of_other other mask
  | false => exact Framer.offer_of_disabled mask

/-- Settles O26: each kind has its mask bit and its fields; JOB_DONE alone has no bit and a backlog. -/
theorem noticeAdmission : Obligations.NoticeAdmission := by
  intro f n
  cases n with
  | jobDone ticket kind result g => exact Framer.offer_of_jobDone rfl rfl
  | mounted store keys next retired epoch => exact Framer.offer_by_mask rfl rfl
  | keyChanged key g deleted => exact Framer.offer_by_mask rfl rfl
  | txnExpired h => exact Framer.offer_by_mask rfl rfl
  | supply v =>
    cases v <;> exact Framer.offer_by_mask rfl rfl
  | storeState store => exact Framer.offer_by_mask rfl rfl

/-! ### Offers on the two links -/

theorem State.link_offer_same (s : State) (l : Link) (n : Notice) : (s.offer l n).link l = (s.link l).offer n :=
  s.link_setLink_same l _

theorem State.link_offer_other (s : State) (l : Link) (n : Notice) : (s.offer l n).link (otherLink l) = s.link (otherLink l) :=
  s.link_setLink_other l _

theorem State.link_offer (s : State) (m l : Link) (n : Notice) :
    (s.offer m n).link l = if m = l then (s.link l).offer n else s.link l := by
  cases m <;> cases l <;> rfl

theorem State.link_offerBoth (s : State) (n : Notice) (l : Link) : (s.offerBoth n).link l = (s.link l).offer n := by
  cases l <;> rfl

theorem State.offer_frame (s : State) (l : Link) (n : Notice) :
    { s.offer l n with lf0 := s.lf0, lf1 := s.lf1, attn := s.attn } = s := by
  cases l <;> rfl

theorem State.offerBoth_frame (s : State) (n : Notice) :
    { s.offerBoth n with lf0 := s.lf0, lf1 := s.lf1, attn := s.attn } = s := rfl

/-! ### One expiry (R39) -/

/-- Settles O27: by the three cases of the context of the handle. -/
theorem expiryFreesTheContext : Obligations.ExpiryFreesTheContext := by
  intro s h released
  have runs : exec (.idleTimerExpiry h) s = .next (s.expireDue h) := congrArg Host.Outcome.next (State.released_of_not_held released)
  refine ⟨?due, ?early, ?other⟩
  case due =>
    intro owner timeout idle staged opened due
    have holds : s.holds.filter (fun p => !(p.2 == .context h)) = s.holds.filter (fun p => decide (p.2 ≠ .context h)) :=
      congrArg (List.filter · s.holds) (funext fun p => by simp [Bool.beq_eq_decide_eq])
    have units : s.poolFree + stagedUnits (s.context h).staged = s.poolFree + stagedUnits staged := by rw [opened]; rfl
    refine ⟨_, runs, ?_⟩
    rw [State.expireDue_of_due opened due, State.link_offer_same, State.link_offer_other]
    refine ⟨?_, fun g apart => ?_, ?_, ?_, ?_, ?_, ?_⟩
    · cases owner <;> exact State.context_setContext_same ..
    · have same := (({ s with poolFree := s.poolFree + stagedUnits (s.context h).staged }).releaseHolder (.context h)).context_setContext h g .free
      rw [if_neg apart] at same
      cases owner <;> exact same
    · rw [← holds]
      cases owner <;> rfl
    · refine Eq.trans ?_ (units.trans (congrArg (s.poolFree + ·) (stagedUnits_eq staged)))
      cases owner <;> rfl
    · cases owner <;> rfl
    · cases owner <;> rfl
    · cases owner <;> exact ⟨rfl, rfl, rfl, rfl, rfl⟩
  case early =>
    intro owner timeout idle staged opened early
    rw [runs, State.expireDue_of_not_due]
    rw [opened]
    exact decide_eq_false (Nat.not_le.mpr early)
  case other =>
    intro other
    rw [runs, State.expireDue_of_not_due]
    cases context : s.context h with
    | opened owner timeout idle staged => exact absurd context (other _ _ _ _)
    | _ => rfl

/-! ### All contexts in order of handles (R38, R39, R79) -/

/-- A hold stays unless it is that of a context that is gone. -/
def keptHold (gone : Handle → Bool) (p : Key × Holder) : Bool :=
  match p.2 with
  | .context h => !gone h
  | .job _ => true

/-- One context of a sweep over the contexts: it expires where it is due, and otherwise takes a new content. -/
def State.passContext (due : Context → Bool) (after : Context → Context) (s : State) (h : Handle) : State :=
  if due (s.context h) then s.expire h else s.setContext h (after (s.context h))

/-- What a sweep over some contexts leaves: those due are FREE, their holds, units and notices are given, and the others have their new content. -/
structure State.Swept (due : Context → Bool) (after : Context → Context) (hs : List Handle) (s t : State) : Prop where
  contexts : ∀ g : Handle, t.context g = if g ∈ hs then (if due (s.context g) then .free else after (s.context g)) else s.context g
  holds : t.holds = s.holds.filter (keptHold fun h => decide (h ∈ hs) && due (s.context h))
  pool : t.poolFree = s.poolFree + (hs.map fun h => if due (s.context h) then stagedUnits (s.context h).staged else 0).sum
  links : ∀ l : Link, t.link l
    = (hs.filter fun h => due (s.context h) && (s.context h).openFor l).foldl (fun f h => f.offer (.txnExpired h)) (s.link l)
  attn : (∀ h ∈ hs, due (s.context h) = false) → t.attn = s.attn
  frame : { t with contexts := s.contexts, holds := s.holds, poolFree := s.poolFree, lf0 := s.lf0, lf1 := s.lf1, attn := s.attn } = s

section
variable {due : Context → Bool} {after : Context → Context} {s t u : State} {h : Handle} {hs gs : List Handle}

theorem State.Swept.nil (s : State) : State.Swept due after [] s s where
  contexts _ := rfl
  holds := (List.filter_eq_self.mpr fun p _ => by unfold keptHold; split <;> rfl).symm
  pool := rfl
  links _ := rfl
  attn _ := rfl
  frame := rfl

/-- A context that is due expires. -/
theorem State.swept_of_due (is : due (s.context h) = true) {owner : Link} {timeout idle : Nat} {staged : List Staged}
    (opened : s.context h = .opened owner timeout idle staged) : State.Swept due after [h] s (s.passContext due after h) := by
  have step : s.passContext due after h = (s.freeContext h).offer owner (.txnExpired h) := by
    rw [State.passContext, if_pos is, State.expire, opened]
  have holds : s.holds.filter (fun p => !(p.2 == .context h)) = s.holds.filter (keptHold fun g => decide (g ∈ [h]) && due (s.context g)) := by
    refine List.filter_congr fun p _ => ?_
    unfold keptHold
    cases p.2 with
    | job ticket => rfl
    | context g =>
      by_cases same : g = h
      · simp [same, is]
      · simp [same]
  rw [step]
  constructor
  case contexts =>
    intro g
    have set := (({ s with poolFree := s.poolFree + stagedUnits (s.context h).staged }).releaseHolder (.context h)).context_setContext h g .free
    have reads : ((s.freeContext h).offer owner (.txnExpired h)).context g = if g = h then .free else s.context g := by
      cases owner <;> exact set
    rw [reads]
    by_cases same : g = h
    · simp [same, is]
    · simp [same]
  case holds => cases owner <;> exact holds
  case pool =>
    rw [List.map_singleton, List.sum_singleton, if_pos is]
    cases owner <;> rfl
  case links =>
    intro l
    have same : (s.freeContext h).link l = s.link l := by cases l <;> rfl
    rw [State.link_offer, same, List.filter_cons, List.filter_nil, is, opened]
    by_cases own : owner = l
    · simp [own, Context.openFor]
    · simp [own, Context.openFor]
  case attn => exact fun none' => absurd (none' h (List.mem_singleton_self h)) (by simp [is])
  case frame => cases owner <;> rfl

/-- A context that is not due takes its new content. -/
theorem State.swept_of_not_due (is : due (s.context h) = false) : State.Swept due after [h] s (s.passContext due after h) := by
  have step : s.passContext due after h = s.setContext h (after (s.context h)) := by
    rw [State.passContext, if_neg (by simp [is])]
  rw [step]
  constructor
  case contexts =>
    intro g
    rw [State.context_setContext]
    by_cases same : g = h
    · simp [same, is]
    · simp [same]
  case holds =>
    refine (List.filter_eq_self.mpr fun p _ => ?_).symm
    unfold keptHold
    cases p.2 with
    | job ticket => rfl
    | context g =>
      by_cases same : g = h
      · simp [same, is]
      · simp [same]
  case pool => simp [is]
  case links =>
    intro l
    rw [List.filter_cons, List.filter_nil, is]
    cases l <;> rfl
  case attn => exact fun _ => rfl
  case frame => rfl

/-- Two sweeps over different contexts make one. -/
theorem State.Swept.append (first : State.Swept due after hs s t) (then' : State.Swept due after gs t u) (apart : ∀ g ∈ gs, g ∉ hs) :
    State.Swept due after (hs ++ gs) s u := by
  have still : ∀ g ∈ gs, t.context g = s.context g := fun g mem => by rw [first.contexts, if_neg (apart g mem)]
  constructor
  case contexts =>
    intro g
    rw [then'.contexts]
    by_cases here : g ∈ gs
    · rw [if_pos here, still g here, if_pos (List.mem_append_right hs here)]
    · rw [if_neg here, first.contexts]
      simp [here]
  case holds =>
    rw [then'.holds, first.holds, List.filter_filter]
    refine List.filter_congr fun p _ => ?_
    unfold keptHold
    cases p.2 with
    | job ticket => rfl
    | context g =>
      by_cases here : g ∈ gs
      · simp [here, apart g here, still g here]
      · simp [here]
  case pool =>
    rw [then'.pool, first.pool, List.map_append, List.sum_append, Nat.add_assoc]
    exact congrArg (fun n => s.poolFree + (_ + n)) (congrArg List.sum (List.map_congr_left fun g mem => by rw [still g mem]))
  case links =>
    intro l
    rw [then'.links, first.links, List.filter_append, List.foldl_append]
    exact congrArg (List.foldl _ _) (List.filter_congr fun g mem => by rw [still g mem])
  case attn =>
    intro none'
    rw [then'.attn fun g mem => by rw [still g mem]; exact none' g (List.mem_append_right hs mem)]
    exact first.attn fun g mem => none' g (List.mem_append_left gs mem)
  case frame =>
    have outer := first.frame
    rw [← then'.frame] at outer
    exact outer

/-- A sweep over contexts, each of which is named once. -/
theorem State.swept_foldl (opens : ∀ c, due c = true → ∃ owner timeout idle staged, c = .opened owner timeout idle staged) :
    ∀ (hs : List Handle) (s : State), hs.Nodup → State.Swept due after hs s (hs.foldl (State.passContext due after) s)
  | [], s, _ => .nil s
  | h :: rest, s, nodup => by
    have one : State.Swept due after [h] s (s.passContext due after h) := by
      cases is : due (s.context h) with
      | true =>
        obtain ⟨owner, timeout, idle, staged, opened⟩ := opens _ is
        exact State.swept_of_due is opened
      | false => exact State.swept_of_not_due is
    obtain ⟨absent, nodup⟩ := List.nodup_cons.mp nodup
    exact one.append (State.swept_foldl opens rest _ nodup) fun g mem same => absent (List.mem_singleton.mp same ▸ mem)

end

theorem mem_allHandles (h : Handle) : h ∈ allHandles := List.mem_finRange h

theorem nodup_allHandles : allHandles.Nodup := List.nodup_finRange 4

/-- A millisecond is a sweep over all contexts. -/
theorem State.tick_swept (s : State) : State.Swept Context.due Context.tick allHandles s s.tick := by
  refine State.swept_foldl (fun c due => ?_) allHandles s nodup_allHandles
  cases c with
  | opened owner timeout idle staged => exact ⟨owner, timeout, idle, staged, rfl⟩
  | _ => cases due

/-- Settles O2: a step on an empty queue is a sweep over all contexts, of which those due expire. -/
theorem idleStepCountsTimers : Obligations.IdleStepCountsTimers := by
  intro s empty released absent due
  have same (h : Handle) : due h = (s.context h).due := by
    change (match s.context h with
       | .opened _ timeout idle _ => decide (timeout ≤ idle)
       | _ => false) = _
    cases s.context h <;> rfl
  have due_eq : due = fun h => (s.context h).due := funext same
  clear_value due
  subst due_eq
  have swept := s.tick_swept
  have quiet : step s = .next s.tick := by
    rw [step, empty]
    exact congrArg Host.Outcome.next (State.quiet_of_no_pausePoint released absent)
  refine ⟨s.tick, quiet, fun h => ?contexts, ?holds, swept.pool, swept.links, swept.frame, fun none' => ?last⟩
  case contexts =>
    rw [swept.contexts, if_pos (mem_allHandles h)]
    cases s.context h with
    | opened owner timeout idle staged => simp [Context.due, Context.tick]
    | _ => rfl
  case holds =>
    rw [swept.holds]
    refine List.filter_congr fun p _ => ?_
    unfold keptHold
    cases p.2 with
    | context h => simp [mem_allHandles]
    | job ticket => rfl
  case last =>
    have none'' (h : Handle) : (s.context h).due = false := none' h
    have holds : s.tick.holds = s.holds := by
      rw [swept.holds]
      refine List.filter_eq_self.mpr fun p _ => ?_
      unfold keptHold
      cases p.2 <;> simp [none'']
    have pool : s.tick.poolFree = s.poolFree := by
      rw [swept.pool]
      simp [none'', List.map_const']
    have link (l : Link) : s.tick.link l = s.link l := by
      rw [swept.links, List.filter_eq_nil_iff.mpr fun h _ => by rw [none'' h, Bool.false_and]; nofun]
      rfl
    have frame := swept.frame
    rw [← holds, ← pool, ← swept.attn fun h _ => none'' h, show s.lf0 = s.tick.lf0 from (link .link0).symm,
      show s.lf1 = s.tick.lf1 from (link .link1).symm] at frame
    exact frame

/-! ### The supply (R142 to R150) -/

/-- With no job but a FORMAT queued in READ_ONLY the queue stays. -/
theorem State.flushQueue_of_formats {s : State} (queue : ∀ cause, s.store = .readOnly cause → ∀ j ∈ s.queue, j.work = .format) :
    s.flushQueue = s := by
  unfold State.flushQueue
  cases store : s.store with
  | readOnly cause =>
    have formats := queue cause store
    have kept : s.queue.filter Job.isFormat = s.queue :=
      List.filter_eq_self.mpr fun j m => by simp [Job.isFormat, formats j m, Work.kind]
    simp only [State.endQueued_of_formats formats, kept]
  | _ => rfl

/-- In NORMAL an event closes with no change where READ_ONLY finds no job to end. -/
theorem State.settle_of_normal {s : State} (normal : s.supply = .normal)
    (queue : ∀ cause, s.store = .readOnly cause → ∀ j ∈ s.queue, j.work = .format) : s.settle = s := by
  rw [State.settle, State.flushQueue_of_formats queue, State.pauseIfHeld, if_neg]
  rintro ⟨-, low, -⟩
  rw [normal] at low
  cases low

/-- In LOW an IDLE engine with held work becomes PAUSED (R146). -/
theorem State.settle_of_low {s : State} (low : s.supply = .low)
    (queue : ∀ cause, s.store = .readOnly cause → ∀ j ∈ s.queue, j.work = .format) :
    s.settle = { s with engine := if s.engine = .idle ∧ (s.queue ≠ [] ∨ s.pass ≠ none) then .paused else s.engine } := by
  rw [State.settle, State.flushQueue_of_formats queue, State.pauseIfHeld]
  by_cases held : s.engine = .idle ∧ (s.queue ≠ [] ∨ s.pass ≠ none)
  · rw [if_pos ⟨held.1, low, held.2⟩, if_pos held]
  · rw [if_neg fun h => held ⟨h.1, h.2.2⟩, if_neg held]

theorem State.announceSupply_eq (s : State) : s.announceSupply = if s.store = .mounting then s else s.offerBoth (.supply s.supply) := by
  unfold State.announceSupply
  cases s.store <;> simp

theorem exec_supplyLow {s : State} (released : s.held = false) :
    exec .supplyLow s = .next (match s.supply with
      | .normal => ({ s with supply := .low }).announceSupply.settle
      | .low => s) := congrArg Host.Outcome.next (State.released_of_not_held released)

theorem exec_supplyNormal {s : State} (released : s.held = false) :
    exec .supplyNormal s = .next (match s.supply with
      | .low => ({ s with supply := .normal }).announceSupply.leavePaused.settle
      | .normal => s) := congrArg Host.Outcome.next (State.released_of_not_held released)

/-- Settles O25: a change announces itself and then the event closes as every event of the engine does. -/
theorem supplyChangesAnnounced : Obligations.SupplyChangesAnnounced := by
  intro s released
  rw [exec_supplyLow released, exec_supplyNormal released]
  refine ⟨fun formats => ⟨fun normal => ?low, fun low mounted ended stopped => ?normal⟩, fun low => by rw [low], fun normal => by rw [normal]⟩
  case low =>
    rw [normal]
    refine congrArg Host.Outcome.next ?_
    dsimp only
    rw [State.announceSupply_eq]
    by_cases mounting : s.store = .mounting
    · rw [if_pos mounting, if_pos mounting]
      exact State.settle_of_low rfl formats
    · rw [if_neg mounting, if_neg mounting]
      exact State.settle_of_low rfl formats
  case normal =>
    rw [low]
    refine congrArg Host.Outcome.next ?_
    dsimp only
    have announced : ({ s with supply := .normal } : State).announceSupply = { s.offerBoth (.supply .normal) with supply := .normal } := by
      rw [State.announceSupply_eq, if_neg ended]
      rfl
    have left' : ({ s.offerBoth (.supply .normal) with supply := .normal } : State).leavePaused
        = { s.offerBoth (.supply .normal) with supply := .normal, engine := if s.engine = .paused then .idle else s.engine } := by
      unfold State.leavePaused
      change (if s.engine = .paused then (match s.mount with
        | some _ => _
        | none => (match s.running with
          | some r => _
          | none => _)) else _) = _
      rw [mounted, stopped]
      by_cases paused : s.engine = .paused
      · simp only [if_pos paused]
      · simp only [if_neg paused]
        rfl
    rw [announced, left']
    exact State.settle_of_normal rfl formats

end Sys2Proof.Machine
end

section
/-! PROOFS. The cell array and its reset: lines read back after a write (R48), what a reset cuts off (R52), and the mount of a blank array
(R113, R115). -/

namespace Sys2Proof.Machine

/-! ### A line as its bytes (R61) -/

/-- One more byte of a line behind the bytes before it. -/
theorem shiftRight_push_byte (c : Line) {n : Nat} (h : n < 16) :
    ((c >>> (8 * (16 - n))) <<< 8) ||| (lineByte c n).setWidth 128 = c >>> (8 * (16 - (n + 1))) := by
  refine BitVec.eq_of_getLsbD_eq fun i bound => ?_
  simp only [lineByte, BitVec.getLsbD_or, BitVec.getLsbD_shiftLeft, BitVec.getLsbD_ushiftRight, BitVec.getLsbD_setWidth,
    BitVec.getLsbD_extractLsb']
  by_cases low : i < 8
  · simp [bound, low]
  · have place : 8 * (16 - n) + (i - 8) = 8 * (16 - (n + 1)) + i := by omega
    simp [bound, low, place]

/-- A line is put together from its 16 bytes. -/
theorem lineOfBytes_lineByte (c : Line) : lineOfBytes ((List.range 16).map (lineByte c)) = c := by
  have first (n : Nat) (h : n ≤ 16) :
      (List.range n).foldl (fun (acc : Line) i => (acc <<< 8) ||| (((List.range 16).map (lineByte c)).getD i 0xFF).setWidth 128) (0 : Line)
        = c >>> (8 * (16 - n)) := by
    induction n with
    | zero =>
      refine (BitVec.eq_of_toNat_eq ?_).symm
      simp only [BitVec.toNat_ushiftRight, Nat.shiftRight_eq_div_pow]
      exact Nat.div_eq_of_lt c.isLt
    | succ n ih =>
      have byte : ((List.range 16).map (lineByte c)).getD n 0xFF = lineByte c n := by
        rw [List.getD_eq_getElem?_getD, List.getElem?_eq_getElem (by rw [List.length_map, List.length_range]; exact h)]
        simp
      rw [List.range_succ (n := n), List.foldl_append, List.foldl_cons, List.foldl_nil, ih (by omega), byte]
      exact shiftRight_push_byte c (by omega)
  exact (first 16 (Nat.le_refl 16)).trans (BitVec.ushiftRight_zero c)

/-- A line just written reads as its content (R48). -/
theorem CellArray.readLine_writeLine_same {a : CellArray} (wf : a.cells.wf = true) (loc : Loc) (content : Line) :
    (a.writeLine loc content).readLine loc = content := by
  have bytes : (List.range 16).map (fun i => (a.writeLine loc content).cells.read (lineAddress loc + i))
      = (List.range 16).map (lineByte content) :=
    List.map_congr_left fun i mem => CellArray.read_writeLine_same wf loc content i (List.mem_range.mp mem)
  rw [CellArray.readLine, bytes, lineOfBytes_lineByte]

theorem CellArray.headers_writeHeader (a : CellArray) (x y : Sector) (content : HeaderLine) :
    (a.writeHeader x content).headers[y] = if y = x then content else a.headers[y] := by
  simp only [CellArray.writeHeader, Fin.getElem_fin, Vector.getElem_set]
  by_cases same : y = x
  · simp [same]
  · rw [if_neg fun e => same (Fin.ext e.symm), if_neg same]

theorem CellArray.headers_eraseSector (a : CellArray) (x y : Sector) :
    (a.eraseSector x).headers[y] = if y = x then BitVec.allOnes 176 else a.headers[y] :=
  a.headers_writeHeader x y (BitVec.allOnes 176)

/-- Lines written into a sector change no header. -/
theorem CellArray.headers_writeLines (x : Sector) : ∀ (lines : List (Nat × Line)) (a : CellArray),
    (lines.foldl (fun b nl => if 1 ≤ nl.1 ∧ nl.1 ≤ 255 then b.writeLine ⟨x, nl.1⟩ nl.2 else b) a).headers = a.headers
  | [], _ => rfl
  | nl :: rest, a => by
    rw [List.foldl_cons, CellArray.headers_writeLines x rest]
    split <;> rfl

theorem CellArray.headers_writeSector (a : CellArray) (x y : Sector) (content : SectorContent) :
    (a.writeSector x content).headers[y] = if y = x then content.header else a.headers[y] := by
  have headers : (a.writeSector x content).headers = ((a.eraseSector x).writeHeader x content.header).headers :=
    CellArray.headers_writeLines x content.lines _
  rw [headers, CellArray.headers_writeHeader, CellArray.headers_eraseSector]
  by_cases same : y = x
  · rw [if_pos same, if_pos same]
  · rw [if_neg same, if_neg same, if_neg same]

/-- Lines written into a sector change no byte outside it. -/
theorem CellArray.read_writeLines_other (x : Sector) {b : Nat} (outside : b < x.val * 4096 ∨ x.val * 4096 + 4096 ≤ b) :
    ∀ (lines : List (Nat × Line)) (a : CellArray),
      (lines.foldl (fun b nl => if 1 ≤ nl.1 ∧ nl.1 ≤ 255 then b.writeLine ⟨x, nl.1⟩ nl.2 else b) a).cells.read b = a.cells.read b
  | [], _ => rfl
  | nl :: rest, a => by
    rw [List.foldl_cons, CellArray.read_writeLines_other x outside rest]
    split
    · next place =>
      refine CellArray.read_writeLine_other a ⟨x, nl.1⟩ nl.2 b ?_
      have address : lineAddress ⟨x, nl.1⟩ = x.val * 4096 + nl.1 * 16 := rfl
      omega
    · rfl

theorem CellArray.read_writeSector_other (a : CellArray) (x : Sector) (content : SectorContent) {b : Nat}
    (outside : b < x.val * 4096 ∨ x.val * 4096 + 4096 ≤ b) : (a.writeSector x content).cells.read b = a.cells.read b := by
  have lines : (a.writeSector x content).cells.read b = ((a.eraseSector x).writeHeader x content.header).cells.read b :=
    CellArray.read_writeLines_other x outside content.lines _
  rw [lines, CellArray.writeHeader_cells, CellArray.read_eraseSector, if_neg (by omega)]

/-- Settles O21: what is cut off is written over its own line, header or sector alone. -/
theorem resetCutsOffTheOperation : Obligations.ResetCutsOffTheOperation := by
  intro torn left s t wf ran
  rw [exec_reset] at ran
  cases ran
  change (s.ops = [] → s.array.cutOff torn left s.ops = s.array) ∧ _
  refine ⟨fun ops => by rw [ops]; rfl, ?image, ?header, ?erase⟩
  case image =>
    intro w start n pattern expected rest ops
    change (s.array.cutOff torn left s.ops).headers = _ ∧ (s.array.cutOff torn left s.ops).readLine _ = _ ∧ _
    rw [ops]
    exact ⟨rfl, CellArray.readLine_writeLine_same wf _ _, fun a outside => CellArray.read_writeLine_other _ _ _ a outside⟩
  case header =>
    intro x field pattern expected rest ops
    change (s.array.cutOff torn left s.ops).cells = _ ∧ (s.array.cutOff torn left s.ops).headers[x] = _
      ∧ ∀ y : Sector, y ≠ x → (s.array.cutOff torn left s.ops).headers[y] = _
    rw [ops]
    exact ⟨rfl, (s.array.headers_writeHeader x x _).trans (if_pos rfl), fun y apart => (s.array.headers_writeHeader x y _).trans (if_neg apart)⟩
  case erase =>
    intro x e rest ops
    change (∀ y : Sector, y ≠ x → (s.array.cutOff torn left s.ops).headers[y] = _) ∧ ∀ a, _ → (s.array.cutOff torn left s.ops).cells.read a = _
    rw [ops]
    exact ⟨fun y apart => (s.array.headers_writeSector x y left).trans (if_neg apart),
      fun a outside => CellArray.read_writeSector_other s.array x left outside⟩

/-! ### Sector records set one by one -/

/-- The record of a sector after each sector of a list has had its record changed once. -/
theorem State.foldl_modSector_sector (f : Sector → SectorRecord → SectorRecord) (y : Sector) : ∀ (xs : List Sector) (s : State), xs.Nodup →
    (xs.foldl (fun t x => t.modSector x (f x)) s).sectors[y] = if y ∈ xs then f y s.sectors[y] else s.sectors[y]
  | [], _, _ => rfl
  | x :: rest, s, nodup => by
    obtain ⟨absent, nodup⟩ := List.nodup_cons.mp nodup
    rw [List.foldl_cons, State.foldl_modSector_sector f y rest _ nodup, State.sectors_modSector]
    by_cases here : y = x
    · subst here
      simp [absent]
    · simp [here]

theorem mem_allSectors (x : Sector) : x ∈ allSectors := List.mem_finRange x

theorem nodup_allSectors : allSectors.Nodup := List.nodup_finRange 32

theorem State.setRecords_sector (s : State) (f : Sector → SectorRecord) (y : Sector) : (s.setRecords f).sectors[y] = f y :=
  (State.foldl_modSector_sector (fun x _ => f x) y allSectors s nodup_allSectors).trans (if_pos (mem_allSectors y))

theorem State.staleAll_sector (s : State) (y : Sector) :
    s.staleAll.sectors[y] = { s.sectors[y] with live := 0, stale := s.sectors[y].stale + s.sectors[y].live } :=
  (State.foldl_modSector_sector (fun _ r => { r with live := 0, stale := r.stale + r.live }) y allSectors s nodup_allSectors).trans
    (if_pos (mem_allSectors y))

/-- A figure listed for all sectors, at the place of one. -/
theorem getD_map_allSectors {α : Type} (f : Sector → α) (x : Sector) (d : α) : (allSectors.map f).getD x.val d = f x := by
  rw [List.getD_eq_getElem?_getD, List.getElem?_eq_getElem (by simp [allSectors])]
  simp [allSectors]

/-! ### The mount of a blank array (R113, R115) -/

/-- A header of zeros alone is classed RETIRED. -/
theorem classify_eq_retired_iff (h : HeaderLine) : classify h = .retired ↔ h = 0 := by
  constructor
  · intro retired
    refine Classical.byContradiction fun other => ?_
    rw [classify, if_neg other] at retired
    split at retired
    · cases retired
    · split at retired
      · cases retired
      · cases retired
      · split at retired
        · split at retired <;> cases retired
        · cases retired
        · split at retired
          · cases retired
          · split at retired <;> cases retired
  · rintro rfl
    rfl

/-- No header gives a reading. -/
theorem CellArray.highest_eq_none {a : CellArray} {f : HeaderLine → Option Word32} (absent : ∀ x : Sector, f a.headers[x] = none) :
    a.highest f = none := by
  unfold CellArray.highest
  generalize allSectors = xs
  induction xs with
  | nil => rfl
  | cons x rest ih =>
    rw [List.foldl_cons, absent]
    exact ih

/-- An event that rests changes at most the state of the engine. -/
theorem State.pauseIfHeld_eq (s : State) : ∃ engine, s.pauseIfHeld = { s with engine := engine } := by
  unfold State.pauseIfHeld
  split
  · exact ⟨.paused, rfl⟩
  · exact ⟨s.engine, rfl⟩

theorem exec_resetRelease {s : State} (held : s.held = true) (supply : Supply) (rate : UartRate) :
    exec (.resetRelease supply rate) s
      = .next (({ s with held := false, supply := supply, uartRate := rate } : State).mountScan.settle) :=
  congrArg Host.Outcome.next (if_pos held)

/-- The end of a mount that finds no prepared block changes sector table and counters, and leaves mount. -/
theorem State.mountBlank_eq (s : State) (classes : List SectorClass) : ∃ sectors : Vector SectorRecord 32,
    s.mountBlank classes = ({ s with sectors := sectors, openSequenceNext := 1, generationNext := 1 } : State).leaveMounting .blank ∧
      ∀ x : Sector, sectors[x].state = if classes.getD x.val .stale = .retired then .retired else .unprepared := by
  refine ⟨(s.setRecords fun x =>
    if classes.getD x.val .stale = .retired then ⟨.retired, 0, 0, 0, 0⟩ else ⟨.unprepared, 0, 0, 0, 0⟩).sectors, ?_, fun x => ?_⟩
  · rw [State.mountBlank, State.setRecords_frame]
  · rw [State.setRecords_sector]
    split <;> rfl

/-- Where a store is left BLANK, the close of the event changes at most the state of the engine. -/
theorem State.settle_leaveMounting_blank (s : State) : ∃ engine, (s.leaveMounting .blank).settle = { s.leaveMounting .blank with engine := engine } := by
  obtain ⟨engine, rests⟩ := (s.leaveMounting .blank).pauseIfHeld_eq
  refine ⟨engine, ?_⟩
  rw [← rests, State.settle, State.flushQueue_of_formats fun cause readOnly => by cases readOnly]

/-- Settles O22: with no valid prepared block the header scan ends mount, and the notices read the state it leaves. -/
theorem mountOfABlankArray : Obligations.MountOfABlankArray := by
  intro s supply rate held invalid
  have absent (x : Sector) : (preparedOf s.array.headers[x]).map (·.1) = none := by
    have none' : preparedOf s.array.headers[x] = none := by
      rw [preparedOf]
      split
      · rfl
      · split
        · next p valid => exact absurd valid (invalid x p)
        · rfl
    rw [none']
    rfl
  have scan : ({ s with held := false, supply := supply, uartRate := rate } : State).mountScan
      = ({ s with held := false, supply := supply, uartRate := rate } : State).mountBlank (allSectors.map (fun x => classify s.array.headers[x])) := by
    rw [State.mountScan, CellArray.highest_eq_none absent]
  obtain ⟨sectors, blank, records⟩ := State.mountBlank_eq { s with held := false, supply := supply, uartRate := rate }
    (allSectors.map (fun x => classify s.array.headers[x]))
  obtain ⟨engine, settled⟩ := State.settle_leaveMounting_blank
    { s with held := false, supply := supply, uartRate := rate, sectors := sectors, openSequenceNext := 1, generationNext := 1 }
  refine ⟨_, by rw [exec_resetRelease held, scan, blank, settled], ?_⟩
  refine ⟨rfl, rfl, rfl, rfl, rfl, rfl, rfl, rfl, rfl, rfl, fun x => ?_, rfl, rfl⟩
  refine (records x).trans ?_
  rw [getD_map_allSectors fun x => classify s.array.headers[x]]
  exact ite_congr (propext (classify_eq_retired_iff _)) (fun _ => rfl) fun _ => rfl

end Sys2Proof.Machine
end

section
/-! PROOFS. The ends of jobs: what jobs that end one after another give back and whom they tell, and what the close of an event leaves as it was
(R16, R44, R86, R89, R90). -/

namespace Sys2Proof.Machine

/-! ### What jobs that end give back (R16, R44) -/

/-- Some job of a list is the COMMIT of a context. -/
def freesContext (jobs : List Job) (h : Handle) : Bool :=
  jobs.any (fun j => decide (j.work = .commit h))

/-- A job that writes one key for itself holds the key by its ticket. -/
def Job.isSolo (j : Job) : Bool :=
  match j.work with
  | .soloWrite _ _ => true
  | .soloDelete _ => true
  | _ => false

/-- The units of the value of a SOLO_WRITE. -/
def Job.soloUnits (j : Job) : Nat :=
  match j.work with
  | .soloWrite _ value => unitsOf value.length
  | _ => 0

/-- A holder keeps its keys when jobs end unless it is one of them or a context that one of them frees. -/
def outlives (jobs : List Job) : Holder → Bool
  | .context h => !freesContext jobs h
  | .job ticket => !jobs.any (fun j => j.isSolo && decide (j.ticket = ticket))

/-- What jobs that end one after another give back; beside that only the links may have changed. -/
structure State.GaveBack (jobs : List Job) (s t : State) : Prop where
  lines : t.reservedLines = s.reservedLines - (jobs.map Job.lines).sum
  slots : t.slotReservations = s.slotReservations - (jobs.map Job.slots).sum
  contexts : ∀ h : Handle, t.context h = if freesContext jobs h then .free else s.context h
  holds : t.holds = s.holds.filter fun p => outlives jobs p.2
  pool : t.poolFree = s.poolFree + (allHandles.map fun h => if freesContext jobs h then stagedUnits (s.context h).staged else 0).sum
    + (jobs.map Job.soloUnits).sum
  frame : { t with
    reservedLines := s.reservedLines, slotReservations := s.slotReservations, contexts := s.contexts, holds := s.holds
    poolFree := s.poolFree, lf0 := s.lf0, lf1 := s.lf1, attn := s.attn } = s

theorem outlives_nil (owner : Holder) : outlives [] owner = true := by
  cases owner <;> rfl

theorem freesContext_append (a b : List Job) (h : Handle) : freesContext (a ++ b) h = (freesContext a h || freesContext b h) :=
  List.any_append ..

theorem outlives_append (a b : List Job) (owner : Holder) : outlives (a ++ b) owner = (outlives a owner && outlives b owner) := by
  cases owner with
  | context h => simp only [outlives, freesContext_append, Bool.not_or]
  | job ticket => simp only [outlives, List.any_append, Bool.not_or]

theorem State.GaveBack.nil (s : State) : State.GaveBack [] s s where
  lines := rfl
  slots := rfl
  contexts _ := rfl
  holds := (List.filter_eq_self.mpr fun p _ => outlives_nil p.2).symm
  pool := by simp [freesContext, List.map_const']
  frame := rfl

/-- A sum of figures of which one alone is not zero. -/
theorem sum_map_single {α : Type} {x : α} {f : α → Nat} : ∀ {xs : List α}, xs.Nodup → x ∈ xs → (∀ y ∈ xs, y ≠ x → f y = 0) → (xs.map f).sum = f x
  | y :: rest, nodup, mem, zero => by
    obtain ⟨new, nodup⟩ := List.nodup_cons.mp nodup
    rw [List.map_cons, List.sum_cons]
    rcases List.mem_cons.mp mem with rfl | later
    · have none' : (rest.map f).sum = 0 := by
        rw [List.map_congr_left (g := fun _ => 0) fun z mem => zero z (List.mem_cons_of_mem x mem) fun same => new (same ▸ mem)]
        simp [List.map_const']
      omega
    · rw [zero y List.mem_cons_self fun same => new (same ▸ later), sum_map_single nodup later fun z mem => zero z (List.mem_cons_of_mem y mem)]
      exact Nat.zero_add _

/-- A job that frees one context gives back the units of its staged list. -/
theorem sum_units_single (h : Handle) (f : Handle → Nat) : (allHandles.map fun g => if decide (h = g) = true then f g else 0).sum = f h :=
  (sum_map_single nodup_allHandles (mem_allHandles h) fun g _ other => if_neg (by simpa using Ne.symm other)).trans (if_pos (by simp))

/-- Units are given back once: a context that one job has freed holds none when another ends. -/
theorem sum_freed_append {s t : State} {a b : List Job}
    (contexts : ∀ h : Handle, t.context h = if freesContext a h then .free else s.context h) (hs : List Handle) :
    (hs.map fun h => if freesContext (a ++ b) h then stagedUnits (s.context h).staged else 0).sum
      = (hs.map fun h => if freesContext a h then stagedUnits (s.context h).staged else 0).sum
        + (hs.map fun h => if freesContext b h then stagedUnits (t.context h).staged else 0).sum := by
  induction hs with
  | nil => rfl
  | cons h rest ih =>
    have one : (if freesContext (a ++ b) h then stagedUnits (s.context h).staged else 0)
        = (if freesContext a h then stagedUnits (s.context h).staged else 0) + (if freesContext b h then stagedUnits (t.context h).staged else 0) := by
      rw [contexts, freesContext_append]
      cases freesContext a h
      · simp
      · cases freesContext b h <;> simp [Context.staged, stagedUnits]
    simp only [List.map_cons, List.sum_cons]
    omega

theorem State.GaveBack.append {a b : List Job} {s t u : State} (first : State.GaveBack a s t) (then' : State.GaveBack b t u) :
    State.GaveBack (a ++ b) s u where
  lines := by rw [then'.lines, first.lines, List.map_append, List.sum_append, Nat.sub_sub]
  slots := by rw [then'.slots, first.slots, List.map_append, List.sum_append, Nat.sub_sub]
  contexts h := by
    rw [then'.contexts, first.contexts, freesContext_append]
    cases freesContext a h <;> cases freesContext b h <;> rfl
  holds := by
    rw [then'.holds, first.holds, List.filter_filter]
    exact List.filter_congr fun p _ => by rw [outlives_append, Bool.and_comm]
  pool := by
    rw [then'.pool, first.pool, sum_freed_append first.contexts, List.map_append, List.sum_append]
    omega
  frame := by
    have outer := first.frame
    rw [← then'.frame] at outer
    exact outer

/-- An offer gives nothing back. -/
theorem State.GaveBack.offer {jobs : List Job} {s t : State} (h : State.GaveBack jobs s t) (l : Link) (n : Notice) :
    State.GaveBack jobs s (t.offer l n) := by
  cases l <;> exact ⟨h.lines, h.slots, h.contexts, h.holds, h.pool, h.frame⟩

theorem holder_job_beq (p q : Ticket) : ((Holder.job p : Holder) == .job q) = decide (q = p) := by
  rw [Bool.eq_iff_iff, beq_iff_eq, decide_eq_true_iff, Holder.job.injEq]
  exact eq_comm

theorem holder_context_beq (g h : Handle) : ((Holder.context g : Holder) == .context h) = decide (h = g) := by
  rw [Bool.eq_iff_iff, beq_iff_eq, decide_eq_true_iff, Holder.context.injEq]
  exact eq_comm

/-- The keys of a ticket are released. -/
theorem filter_releaseTicket (holds : List (Key × Holder)) {j : Job} (solo : j.isSolo = true) (other : ∀ h, j.work ≠ .commit h) :
    holds.filter (fun p => !(p.2 == .job j.ticket)) = holds.filter fun p => outlives [j] p.2 := by
  refine List.filter_congr fun p _ => ?_
  cases p.2 with
  | context h => simp [outlives, freesContext, other h]
  | job ticket => simp [outlives, solo, holder_job_beq]

/-- A job that gives back what it held (R16, R44). -/
theorem State.releaseJob_gaveBack (s : State) (j : Job) : State.GaveBack [j] s (s.releaseJob j) := by
  obtain ⟨ticket, work, origin, lines, slots⟩ := j
  have none' (other : ∀ h, work ≠ .commit h) (h : Handle) : freesContext [⟨ticket, work, origin, lines, slots⟩] h = false := by
    simp [freesContext, other h]
  have still (other : ∀ h, work ≠ .commit h) (h : Handle) :
      s.context h = if freesContext [⟨ticket, work, origin, lines, slots⟩] h then .free else s.context h := by
    simp [none' other h]
  have whole (other : ∀ h, work ≠ .commit h) (solo : Job.isSolo ⟨ticket, work, origin, lines, slots⟩ = false) :
      s.holds = s.holds.filter fun p => outlives [⟨ticket, work, origin, lines, slots⟩] p.2 := by
    refine (List.filter_eq_self.mpr fun p _ => ?_).symm
    cases p.2 with
    | context h => simp [outlives, none' other h]
    | job ticket => simp [outlives, solo]
  cases work with
  | commit h =>
    have frees (g : Handle) : freesContext [⟨ticket, .commit h, origin, lines, slots⟩] g = decide (h = g) := by
      simp [freesContext]
    refine ⟨rfl, rfl, fun g => ?contexts, ?holds, ?pool, rfl⟩
    case contexts =>
      have set := (({ s with poolFree := s.poolFree + stagedUnits (s.context h).staged }).releaseHolder (.context h)).context_setContext h g .free
      refine set.trans ?_
      rw [frees]
      by_cases same : h = g
      · simp [same]
      · rw [if_neg fun e => same e.symm, if_neg (by simpa using same)]
        rfl
    case holds =>
      refine List.filter_congr fun p _ => ?_
      cases p.2 with
      | context g => rw [outlives, frees, holder_context_beq]
      | job other => rfl
    case pool =>
      have units : (allHandles.map fun g => if decide (h = g) = true then stagedUnits (s.context g).staged else 0).sum
          = stagedUnits (s.context h).staged := sum_units_single h fun g => stagedUnits (s.context g).staged
      simp only [frees, units]
      rfl
  | soloWrite k value =>
    exact ⟨rfl, rfl, still nofun, filter_releaseTicket s.holds (j := ⟨ticket, .soloWrite k value, origin, lines, slots⟩) rfl nofun,
      by simp [State.releaseJob, State.releaseHolder, Job.soloUnits, none' nofun, List.map_const'], rfl⟩
  | soloDelete k =>
    exact ⟨rfl, rfl, still nofun, filter_releaseTicket s.holds (j := ⟨ticket, .soloDelete k, origin, lines, slots⟩) rfl nofun,
      by simp [State.releaseJob, State.releaseHolder, Job.soloUnits, none' nofun, List.map_const'], rfl⟩
  | _ => exact ⟨rfl, rfl, still nofun, whole nofun rfl, by simp [State.releaseJob, Job.soloUnits, none' nofun, List.map_const'], rfl⟩

theorem State.releaseJob_link (s : State) (j : Job) (l : Link) : (s.releaseJob j).link l = s.link l := by
  obtain ⟨ticket, work, origin, lines, slots⟩ := j
  cases work <;> cases l <;> rfl

/-! ### Jobs that end one after another (R89, R90) -/

/-- Jobs that end with a result and generation 0: they give back what they held, and each origin is told in order. -/
structure State.Ended (ended : List (Job × JobResult)) (s t : State) : Prop where
  gaveBack : State.GaveBack (ended.map (·.1)) s t
  links : ∀ l : Link, t.link l = (ended.filter fun p => decide (p.1.origin = l)).foldl
    (fun f p => f.offer (.jobDone p.1.ticket p.1.work.kind p.2 0)) (s.link l)

theorem State.Ended.nil (s : State) : State.Ended [] s s := ⟨.nil s, fun _ => rfl⟩

theorem State.Ended.append {a b : List (Job × JobResult)} {s t u : State} (first : State.Ended a s t) (then' : State.Ended b t u) :
    State.Ended (a ++ b) s u where
  gaveBack := by
    rw [List.map_append]
    exact first.gaveBack.append then'.gaveBack
  links l := by rw [then'.links, first.links, List.filter_append, List.foldl_append]

/-- A job that gives back what it held and tells its origin. -/
theorem State.ended_of_release (s : State) (j : Job) (result : JobResult) :
    State.Ended [(j, result)] s ((s.releaseJob j).offerDone j result 0) where
  gaveBack := (s.releaseJob_gaveBack j).offer j.origin _
  links l := by
    rw [State.offerDone, State.link_offer, State.releaseJob_link, List.filter_cons, List.filter_nil]
    by_cases own : j.origin = l <;> simp [own]

theorem Job.isFormat_eq (j : Job) : j.isFormat = decide (j.work = .format) := by
  cases work : j.work <;> simp [Job.isFormat, work, Work.kind]

/-- In READ_ONLY every queued job but a FORMAT ends, in queue order (R89). -/
theorem State.endQueued_ended (jobs : List Job) (s : State) :
    State.Ended ((jobs.filter fun j => decide (j.work ≠ .format)).map fun j => (j, .storeReadOnly)) s (s.endQueued jobs) := by
  induction jobs generalizing s with
  | nil => exact .nil s
  | cons j rest ih =>
    rw [State.endQueued, Job.isFormat_eq]
    by_cases format : j.work = .format
    · simpa [format] using ih s
    · rw [if_neg (by simpa using format), List.filter_cons_of_pos (by simpa using format), List.map_cons, ← List.singleton_append]
      exact (s.ended_of_release j .storeReadOnly).append (ih _)

/-! ### What the close of an event leaves as it was (R89, R146) -/

/-- The jobs that the close of an event ends. -/
def State.flushed (s : State) : List Job :=
  match s.store with
  | .readOnly _ => s.queue.filter fun j => decide (j.work ≠ .format)
  | _ => []

/-- The close of an event ends the queued jobs in READ_ONLY and may pause the engine; beside that it changes nothing. -/
theorem State.settle_frame (s : State) : ∃ t engine, State.Ended (s.flushed.map fun j => (j, .storeReadOnly)) s t ∧
    s.settle = { t with queue := s.settle.queue, engine := engine } := by
  have flush : ∃ t, State.Ended (s.flushed.map fun j => (j, .storeReadOnly)) s t ∧ s.flushQueue = { t with queue := s.flushQueue.queue } := by
    unfold State.flushQueue State.flushed
    cases s.store with
    | readOnly cause => exact ⟨_, State.endQueued_ended s.queue s, rfl⟩
    | _ => exact ⟨s, .nil s, rfl⟩
  obtain ⟨t, ended, kept⟩ := flush
  obtain ⟨engine, paused⟩ := s.flushQueue.pauseIfHeld_eq
  refine ⟨t, engine, ended, ?_⟩
  rw [State.settle, paused, kept]

theorem State.settle_array (s : State) : s.settle.array = s.array := by
  obtain ⟨t, engine, ended, same⟩ := s.settle_frame
  rw [same]
  exact (congrArg State.array ended.gaveBack.frame :)

theorem State.settle_ops (s : State) : s.settle.ops = s.ops := by
  obtain ⟨t, engine, ended, same⟩ := s.settle_frame
  rw [same]
  exact (congrArg State.ops ended.gaveBack.frame :)

end Sys2Proof.Machine
end

section
/-! PROOFS. Completions of erases and of a FORMAT's sectors: the erase that passes (R50, R53), and a FORMAT that goes on or ends (R80, R81). -/

namespace Sys2Proof.Machine

/-! ### The events while reset is released -/

section
variable {s : State}

theorem exec_lineProgramDone (released : s.held = false) (readback : LineReadback) :
    exec (.lineProgramDone readback) s = .next (s.lineProgramDone readback).settle :=
  congrArg Host.Outcome.next (State.released_of_not_held released)

theorem exec_sectorEraseDone (released : s.held = false) (readback : EraseReadback) :
    exec (.sectorEraseDone readback) s = .next (s.sectorEraseDone readback).settle :=
  congrArg Host.Outcome.next (State.released_of_not_held released)

theorem exec_jobStart (released : s.held = false) : exec .jobStart s = .next s.jobStart.settle :=
  congrArg Host.Outcome.next (State.released_of_not_held released)

theorem exec_backgroundPassStart (released : s.held = false) : exec .backgroundPassStart s = .next s.backgroundPassStart.settle :=
  congrArg Host.Outcome.next (State.released_of_not_held released)

theorem exec_passResume (released : s.held = false) : exec .passResume s = .next s.passResume.settle :=
  congrArg Host.Outcome.next (State.released_of_not_held released)

/-- A header program that reads back as expected passes. -/
theorem State.lineProgramDone_of_header_passed {x : Sector} {field : HeaderField} {pattern expected : HeaderLine} {rest : List ArrayOp}
    (head : s.ops = .header x field pattern expected :: rest) :
    s.lineProgramDone .asExpected = (s.popOp rest (s.array.writeHeader x expected)).headerDone x true field := by
  rw [State.lineProgramDone_of_header .asExpected head]
  simp [contentAfter]

end

/-! ### The erase that passes (R50, R53) -/

/-- An erased sector reads erased. -/
theorem CellArray.sectorErased_eraseSector (a : CellArray) (x : Sector) : (a.eraseSector x).sectorErased x = true := by
  have header := a.headers_eraseSector x x
  rw [if_pos rfl] at header
  have cells : (a.eraseSector x).cells.erasedFrom (x.val * 4096) (x.val * 4096 + 4096) = true := by
    refine List.all_eq_true.mpr fun c mem => ?_
    obtain ⟨-, outside⟩ := List.mem_filter.mp mem
    rw [Bool.or_eq_true]
    exact .inl outside
  rw [CellArray.sectorErased, header, cells]
  simp

/-- The prepared block of an erased sector is programmed over bits that all read 1. -/
theorem State.requestPrepared_ops {s : State} {x : Sector} (erased : s.array.headers[x] = BitVec.allOnes 176) (e : Eraser) (count : Word32) :
    (s.requestPrepared x e count).ops
      = s.ops ++ [.header x (.preparedBlock e count) (preparedPattern s.epoch count) (preparedPattern s.epoch count)] := by
  rw [State.requestPrepared, State.requestHeader, erased, BitVec.allOnes_and]
  rfl

/-- Settles O28: the erase leaves the sector erased, and the requester's count goes into the block it asks for. -/
theorem erasePassPreparesTheSector : Obligations.ErasePassPreparesTheSector := by
  intro s x e rest released ops
  have verified : s.sectorEraseDone .asExpected
      = (s.popOp rest (s.array.eraseSector x)).erasePassed x e
          ((s.popOp rest (s.array.eraseSector x)).countFor x s.array.headers[x] e) := by
    rw [State.sectorEraseDone_of_erase ops rfl, State.eraseVerified]
    exact if_pos (s.array.sectorErased_eraseSector x)
  have header := s.array.headers_eraseSector x x
  rw [if_pos rfl] at header
  refine ⟨_, exec_sectorEraseDone released .asExpected, ?_⟩
  rw [verified, State.settle_array, State.settle_ops]
  have array : ((s.popOp rest (s.array.eraseSector x)).erasePassed x e
      ((s.popOp rest (s.array.eraseSector x)).countFor x s.array.headers[x] e)).array = s.array.eraseSector x := by
    cases e <;> rfl
  rw [array]
  refine ⟨s.array.headers_eraseSector x, s.array.read_eraseSector x, ?_⟩
  cases e with
  | reclaim => exact State.requestPrepared_ops (s := (s.popOp rest (s.array.eraseSector x)).setPhase .preparing) header _ _
  | format => exact State.requestPrepared_ops (s := s.popOp rest (s.array.eraseSector x)) header _ _
  | sweep => exact State.requestPrepared_ops (s := s.popOp rest (s.array.eraseSector x)) header _ _

/-! ### The next sector of a FORMAT (R80) -/

/-- The first sector of a list of all sectors that meets a condition. -/
theorem find?_allSectors_of_first {p : Sector → Bool} {y : Sector} (here : p y = true) (before : ∀ z : Sector, z.val < y.val → p z = false) :
    allSectors.find? p = some y := by
  refine List.find?_eq_some_iff_getElem.mpr ⟨here, y.val, by simp [allSectors], by simp [allSectors], fun j earlier => ?_⟩
  simpa [allSectors] using before ⟨j, by omega⟩ earlier

theorem State.nextToFormat_of_first {s : State} {i : Nat} {y : Sector} (reached : i ≤ y.val) (here : s.sectors[y].nonRetired = true)
    (before : ∀ z : Sector, i ≤ z.val → z.val < y.val → s.sectors[z].nonRetired = false) : s.nextToFormat i = some y := by
  refine find?_allSectors_of_first (by rw [here, Bool.and_true]; exact decide_eq_true reached) fun z earlier => ?_
  by_cases later : i ≤ z.val
  · rw [before z later earlier, Bool.and_false]
  · rw [decide_eq_false later, Bool.false_and]

theorem State.nextToFormat_of_none {s : State} {i : Nat} (retired : ∀ z : Sector, i ≤ z.val → s.sectors[z].nonRetired = false) :
    s.nextToFormat i = none := by
  refine List.find?_eq_none.mpr fun z _ => ?_
  by_cases later : i ≤ z.val
  · rw [retired z later, Bool.and_false]
    nofun
  · rw [decide_eq_false later, Bool.false_and]
    nofun

/-- A FORMAT in NORMAL supply erases its next sector. -/
theorem State.formatOn_of_next {s : State} {r : Running} {y : Sector} (run : s.running = some r) (next : s.nextToFormat r.formatNext = some y)
    (normal : s.supply = .normal) :
    s.formatOn = { s with running := some { r with formatNext := y.val + 1 }, ops := s.ops ++ [.erase y .format] } := by
  rw [State.formatOn, run]
  change s.formatNextSector r = _
  rw [State.formatNextSector, next]
  dsimp only
  rw [if_neg (by simp [normal]), State.modRunning, run]
  rfl

/-- Outside READY a retirement changes no store state. -/
theorem State.retire_of_not_ready {s : State} (other : s.store ≠ .ready) (x : Sector) :
    s.retire x = (s.modSector x fun r => { r with state := .retired, live := 0, pending := 0, stale := 0 }).requestHeader x .retired
      retiredPattern := by
  rw [State.retire, State.enterReadOnly_of_not_ready (s := s.modSector x _) other, ite_self]

theorem State.retire_sector {s : State} (other : s.store ≠ .ready) (x z : Sector) :
    (s.retire x).sectors[z] = if z = x then ⟨.retired, s.sectors[x].eraseCount, 0, 0, 0⟩ else s.sectors[z] := by
  rw [State.retire_of_not_ready other]
  exact s.sectors_modSector x z fun r => { r with state := .retired, live := 0, pending := 0, stale := 0 }

/-- The retired header clears every bit (R64). -/
theorem State.retire_ops {s : State} (other : s.store ≠ .ready) (x : Sector) : (s.retire x).ops = s.ops ++ [.header x .retired 0 0] := by
  have zeros : s.array.headers[x] &&& retiredPattern = 0 := BitVec.and_zero
  rw [State.retire_of_not_ready other]
  exact congrArg (fun expected => s.ops ++ [ArrayOp.header x .retired retiredPattern expected]) zeros

theorem State.markErased_sector (s : State) (x : Sector) (count : Word32) (z : Sector) :
    (s.markErased x count).sectors[z] = if z = x then ⟨.erased, count, 0, 0, 0⟩ else s.sectors[z] :=
  s.sectors_modSector x z fun _ => ⟨.erased, count, 0, 0, 0⟩

/-- An erase that fails retires the sector and its requester goes on (R50, R64). -/
theorem State.sectorEraseDone_of_failed {s : State} {x : Sector} {e : Eraser} {rest : List ArrayOp} {content : SectorContent}
    (ops : s.ops = .erase x e :: rest) (unready : content.header ≠ BitVec.allOnes 176) (invalid : ∀ p, readPrepared content.header ≠ .valid p) :
    s.sectorEraseDone (.reads content) = (s.popOp rest (s.array.writeSector x content)).eraseFailed x e := by
  have possible : eraseCanLeave (.reads content) = true := by
    rw [eraseCanLeave, preparedOf]
    split
    · rfl
    · split
      · next p valid => exact absurd valid (invalid p)
      · rfl
  have header := s.array.headers_writeSector x x content
  rw [if_pos rfl] at header
  rw [State.sectorEraseDone_of_erase ops possible, State.eraseVerified]
  refine if_neg ?_
  change ¬ (s.array.writeSector x content).sectorErased x = true
  rw [CellArray.sectorErased, header, decide_eq_false unready, Bool.false_and]
  nofun

/-- Settles O29: the sector at hand lies before the next one, so its own record does not matter to the choice. -/
theorem formatGoesSectorBySector : Obligations.FormatGoesSectorBySector := by
  intro s x y r released run store normal engine past reached here between
  have still {t : State} (engaged : t.engine = .running) (formatting : t.store = .formatting) : t.settle = t :=
    State.settle_of_engaged (by rw [engaged]; nofun) fun cause readOnly => by rw [formatting] at readOnly; cases readOnly
  have next {t : State} (same : ∀ z : Sector, z ≠ x → t.sectors[z] = s.sectors[z]) : t.nextToFormat r.formatNext = some y := by
    refine State.nextToFormat_of_first reached ?_ fun z later earlier => ?_
    · rw [same y fun e => by subst e; omega]
      exact here
    · rw [same z fun e => by subst e; omega]
      exact between z later earlier
  constructor
  · intro content ops unready invalid
    have unready' : (s.popOp [] (s.array.writeSector x content)).store ≠ .ready := by rw [State.popOp_store, store]; nofun
    have retired := State.retire_of_not_ready unready' x
    have record (z : Sector) : ((s.popOp [] (s.array.writeSector x content)).retire x).sectors[z]
        = if z = x then ⟨.retired, s.sectors[x].eraseCount, 0, 0, 0⟩ else s.sectors[z] := State.retire_sector unready' x z
    have goes : s.sectorEraseDone (.reads content) = _ :=
      (State.sectorEraseDone_of_failed ops unready invalid).trans
        (State.formatOn_of_next (s := (s.popOp [] (s.array.writeSector x content)).retire x) (by rw [retired]; exact run)
          (next fun z other => by rw [record, if_neg other]) (by rw [retired]; exact normal))
    refine ⟨_, exec_sectorEraseDone released _, ?_⟩
    rw [goes, still (by rw [retired]; exact engine) (by rw [retired]; exact store)]
    refine ⟨fun p => ?_, record, ?_, by rw [retired]; exact store, by rw [retired]; exact engine, rfl⟩
    · have header := s.array.headers_writeSector x x content
      rw [if_pos rfl] at header
      rw [retired]
      change readPrepared (s.array.writeSector x content).headers[x] ≠ _
      rw [header]
      exact invalid p
    · exact congrArg (· ++ [ArrayOp.erase y .format]) (State.retire_ops unready' x)
  · intro count pattern expected ops
    rw [exec_lineProgramDone released, State.lineProgramDone_of_header_passed ops]
    change Host.Outcome.next (((s.popOp [] (s.array.writeHeader x expected)).markErased x count).formatOn).settle = _
    rw [State.formatOn_of_next (s := (s.popOp [] (s.array.writeHeader x expected)).markErased x count) (r := r) (y := y) run (next fun z other => (State.markErased_sector ..).trans (if_neg other)) normal]
    exact congrArg Host.Outcome.next (still engine store)

/-! ### The end of a FORMAT (R81) -/

/-- A job that writes no image and took no generation ends by giving back its reservation and telling its origin. -/
theorem State.endRunning_of_bare {s : State} {r : Running} (work : r.job.work = .format ∨ r.job.work = .reclaimReq) (fresh : r.generation = 0)
    (result : JobResult) :
    s.endRunning r result = ({ s with
      reservedLines := s.reservedLines - r.job.lines
      slotReservations := s.slotReservations - r.job.slots
      running := none
      engine := .idle } : State).offerDone r.job result 0 := by
  rw [State.endRunning, fresh]
  rcases work with work | work <;> (simp only [work, State.jobImages, State.recordImages, State.releaseJob]; rfl)

/-- A FORMAT with no sector left ends. -/
theorem State.formatOn_of_last {s : State} {r : Running} (run : s.running = some r) (last : s.nextToFormat r.formatNext = none) :
    s.formatOn = s.formatEnd r := by
  rw [State.formatOn, run]
  change s.formatNextSector r = _
  rw [State.formatNextSector, last]

/-- The store state in which a FORMAT has ended, and whom it tells. -/
structure State.FormatEnded (r : Running) (s t : State) : Prop where
  store : t.store = s.formattedStore
  running : t.running = none
  generation : t.generationNext = s.generationNext
  epoch : t.epoch = s.epoch
  directory : t.directory = s.directory
  sectors : t.sectors = s.sectors
  ops : t.ops = s.ops
  origin : t.link r.job.origin = ((s.link r.job.origin).offer (.storeState s.formattedStore)).offer (.jobDone r.job.ticket .format .ok 0)
  other : t.link (otherLink r.job.origin) = (s.link (otherLink r.job.origin)).offer (.storeState s.formattedStore)

theorem State.formatEnd_ended {s : State} {r : Running} (work : r.job.work = .format) (fresh : r.generation = 0) (empty : s.queue = []) :
    State.FormatEnded r s (s.formatEnd r).settle := by
  have queue : (s.formatEnd r).queue = [] := by
    rw [State.formatEnd, State.endRunning_of_bare (.inl work) fresh, State.offerDone, State.offer, State.setLink_queue]
    exact empty
  obtain ⟨engine, rests⟩ := (s.formatEnd r).pauseIfHeld_eq
  have settled : (s.formatEnd r).settle = { s.formatEnd r with engine := engine } := by
    rw [← rests, State.settle, State.flushQueue_of_formats fun _ _ j mem => by rw [queue] at mem; cases mem]
  have kind : r.job.work.kind = .format := by rw [work]; rfl
  rw [settled, State.formatEnd, State.endRunning_of_bare (.inl work) fresh, State.offerDone, kind]
  obtain ⟨⟨ticket, work, origin, lines, slots⟩, generation, placed, writing, fold, formatNext⟩ := r
  cases origin <;> exact ⟨rfl, rfl, rfl, rfl, rfl, rfl, rfl, rfl, rfl⟩

/-- Settles O30: both ends leave the figures from which the store state is read. -/
theorem formatEnds : Obligations.FormatEnds := by
  intro s x r released run work fresh store empty past retired ended
  have last {t : State} (same : ∀ z : Sector, z ≠ x → t.sectors[z] = s.sectors[z]) : t.nextToFormat r.formatNext = none :=
    State.nextToFormat_of_none fun z later => by
      rw [same z fun e => by subst e; omega]
      exact retired z later
  have ends {u t : State} (h : State.FormatEnded r u t) (generation : u.generationNext = s.generationNext) (epoch : u.epoch = s.epoch)
      (directory : u.directory = s.directory) (links : ∀ l, u.link l = s.link l) : ended t := by
    have figure : t.nonRetiredCount = u.nonRetiredCount := by rw [State.nonRetiredCount, h.sectors, State.nonRetiredCount]
    have state : t.store = u.formattedStore := h.store
    refine ⟨?_, h.running, h.generation.trans generation, h.epoch.trans epoch, h.directory.trans directory, ?_, ?_⟩
    · rw [figure, state, State.formattedStore, generation]
    · rw [state, ← links]
      exact h.origin
    · rw [state, ← links]
      exact h.other
  constructor
  · intro count pattern expected ops
    have goes : s.lineProgramDone .asExpected = ((s.popOp [] (s.array.writeHeader x expected)).markErased x count).formatEnd r := by
      rw [State.lineProgramDone_of_header_passed ops]
      exact State.formatOn_of_last run (last fun z other => (State.markErased_sector ..).trans (if_neg other))
    have h := State.formatEnd_ended (s := (s.popOp [] (s.array.writeHeader x expected)).markErased x count) work fresh empty
    refine ⟨_, exec_lineProgramDone released _, ?_⟩
    rw [goes]
    refine ⟨ends h rfl rfl rfl fun l => by cases l <;> rfl, h.ops, fun z => ?_⟩
    rw [h.sectors]
    exact State.markErased_sector ..
  · intro content ops unready invalid
    have unready' : (s.popOp [] (s.array.writeSector x content)).store ≠ .ready := by rw [State.popOp_store, store]; nofun
    have shape := State.retire_of_not_ready unready' x
    have record (z : Sector) : ((s.popOp [] (s.array.writeSector x content)).retire x).sectors[z]
        = if z = x then ⟨.retired, s.sectors[x].eraseCount, 0, 0, 0⟩ else s.sectors[z] := State.retire_sector unready' x z
    have goes : s.sectorEraseDone (.reads content) = ((s.popOp [] (s.array.writeSector x content)).retire x).formatEnd r :=
      (State.sectorEraseDone_of_failed ops unready invalid).trans
        (State.formatOn_of_last (by rw [shape]; exact run) (last fun z other => by rw [record, if_neg other]))
    have h := State.formatEnd_ended (s := (s.popOp [] (s.array.writeSector x content)).retire x) work fresh (by rw [shape]; exact empty)
    refine ⟨_, exec_sectorEraseDone released _, ?_⟩
    rw [goes]
    refine ⟨ends h (by rw [shape]; rfl) (by rw [shape]; rfl) (by rw [shape]; rfl) fun l => by rw [shape]; cases l <;> rfl, ?_, fun z => ?_⟩
    · rw [h.ops]
      exact State.retire_ops unready' x
    · rw [h.sectors]
      exact record z

end Sys2Proof.Machine
end

section
/-! PROOFS. The choice of sectors (R60, R94, R95), image programs and openings for both writers (R60, R62, R75, R103), and the program-failure
ladder up to its retries (R63, R85, R105). -/

namespace Sys2Proof.Machine

/-! ### The element a comparison prefers -/

section
variable {α : Type} {better : α → α → Bool}

/-- One element of a choice against the best so far. -/
def keepBest (better : α → α → Bool) (best b : α) : α := if better b best then b else best

theorem selectBy_cons (a : α) (rest : List α) : selectBy better (a :: rest) = some (rest.foldl (keepBest better) a) := rfl

theorem foldl_keepBest_mem (better : α → α → Bool) (a : α) : ∀ (rest : List α), rest.foldl (keepBest better) a ∈ a :: rest
  | [] => List.mem_cons_self
  | b :: rest => by
    rw [List.foldl_cons]
    rcases List.mem_cons.mp (foldl_keepBest_mem better (keepBest better a b) rest) with same | later
    · rw [same, keepBest]
      split
      · exact List.mem_cons_of_mem _ List.mem_cons_self
      · exact List.mem_cons_self
    · exact List.mem_cons_of_mem _ (List.mem_cons_of_mem _ later)

/-- The chosen element is one of the list. -/
theorem mem_of_selectBy {xs : List α} {m : α} (chosen : selectBy better xs = some m) : m ∈ xs := by
  cases xs with
  | nil => cases chosen
  | cons a rest =>
    cases chosen
    exact foldl_keepBest_mem better a rest

theorem foldl_keepBest_stays {m : α} : ∀ {rest : List α}, (∀ c ∈ rest, better c m = false) → rest.foldl (keepBest better) m = m
  | [], _ => rfl
  | c :: rest, worse => by
    have stays : keepBest better m c = m := if_neg (by simp [worse c List.mem_cons_self])
    rw [List.foldl_cons, stays]
    exact foldl_keepBest_stays fun d mem => worse d (List.mem_cons_of_mem c mem)

/-- An element that is preferred over every one before it, and over which none after it is preferred, is chosen. -/
theorem selectBy_of_split {front back : List α} {m : α} (earlier : ∀ b ∈ front, better m b = true)
    (later : ∀ c ∈ back, better c m = false) : selectBy better (front ++ m :: back) = some m := by
  cases front with
  | nil => exact congrArg some (foldl_keepBest_stays later)
  | cons a rest =>
    have taken : keepBest better (rest.foldl (keepBest better) a) m = m := if_pos (earlier _ (foldl_keepBest_mem better a rest))
    rw [List.cons_append, selectBy_cons, List.foldl_append, List.foldl_cons, taken]
    exact congrArg some (foldl_keepBest_stays later)

/-- An element that loses against every other is not chosen where there is another. -/
theorem selectBy_ne_of_split {front back : List α} {m : α} (absentBefore : m ∉ front) (absentAfter : m ∉ back)
    (earlier : ∀ b ∈ front, better m b = false) (later : ∀ c ∈ back, better c m = true) (another : front ++ back ≠ []) :
    selectBy better (front ++ m :: back) ≠ some m := by
  have apart {a : α} (other : a ≠ m) : back.foldl (keepBest better) a ≠ m := fun same => by
    rcases List.mem_cons.mp (foldl_keepBest_mem better a back) with first | later'
    · exact other (first.symm.trans same)
    · exact absentAfter (same ▸ later')
  cases front with
  | nil =>
    cases back with
    | nil => exact absurd rfl another
    | cons c rest =>
      have moves : keepBest better m c = c := if_pos (later c List.mem_cons_self)
      rw [List.nil_append, selectBy_cons, List.foldl_cons, moves]
      intro same
      exact absentAfter (Option.some.inj same ▸ foldl_keepBest_mem better c rest)
  | cons a rest =>
    have mem := foldl_keepBest_mem better a rest
    have stays : keepBest better (rest.foldl (keepBest better) a) m = rest.foldl (keepBest better) a := if_neg (by simp [earlier _ mem])
    rw [List.cons_append, selectBy_cons, List.foldl_append, List.foldl_cons, stays]
    exact fun same => apart (fun e => absentBefore (e ▸ mem)) (Option.some.inj same)

end

section
variable {better : Sector → Sector → Bool} {xs : List Sector} {m : Sector}

/-- Sectors picked from all sectors are in ascending order. -/
theorem filter_allSectors_sorted (p : Sector → Bool) : (allSectors.filter p).Pairwise (· < ·) :=
  (List.pairwise_lt_finRange 32).filter p

/-- In ascending order of sectors: the one preferred over every lower index, and over which no higher index is preferred, is chosen. -/
theorem selectBy_of_best (sorted : xs.Pairwise (· < ·)) (mem : m ∈ xs) (lower : ∀ b ∈ xs, b < m → better m b = true)
    (higher : ∀ c ∈ xs, m < c → better c m = false) : selectBy better xs = some m := by
  obtain ⟨front, back, rfl⟩ := List.append_of_mem mem
  obtain ⟨-, behind, before⟩ := List.pairwise_append.mp sorted
  obtain ⟨after, -⟩ := List.pairwise_cons.mp behind
  exact selectBy_of_split (fun b h => lower b (List.mem_append_left _ h) (before b h m List.mem_cons_self))
    fun c h => higher c (List.mem_append_right _ (List.mem_cons_of_mem _ h)) (after c h)

/-- In ascending order of sectors: the one that loses against every other is not chosen where there is another. -/
theorem selectBy_ne_of_worst (sorted : xs.Pairwise (· < ·)) (mem : m ∈ xs) (lower : ∀ b ∈ xs, b < m → better m b = false)
    (higher : ∀ c ∈ xs, m < c → better c m = true) (another : ∃ b ∈ xs, b ≠ m) : selectBy better xs ≠ some m := by
  obtain ⟨front, back, rfl⟩ := List.append_of_mem mem
  obtain ⟨-, behind, before⟩ := List.pairwise_append.mp sorted
  obtain ⟨after, -⟩ := List.pairwise_cons.mp behind
  refine selectBy_ne_of_split (fun h => Nat.lt_irrefl _ (before m h m List.mem_cons_self)) (fun h => Nat.lt_irrefl _ (after m h))
    (fun b h => lower b (List.mem_append_left _ h) (before b h m List.mem_cons_self))
    (fun c h => higher c (List.mem_append_right _ (List.mem_cons_of_mem _ h)) (after c h)) fun none' => ?_
  obtain ⟨b, here, other⟩ := another
  obtain ⟨rfl, rfl⟩ := List.append_eq_nil_iff.mp none'
  exact other (List.mem_singleton.mp here)

end

/-! ### The sector that an open request opens (R60) -/

theorem State.mem_erasedSectors (s : State) (x : Sector) : x ∈ s.erasedSectors ↔ s.sectors[x].state = .erased := by
  rw [State.erasedSectors, List.mem_filter, and_iff_right (mem_allSectors x)]
  cases s.sectors[x].state <;> simp [SectorState.isErased]

/-- Of the ERASED sectors the one with the lowest erase count, ties to the lowest index. -/
def State.leastWorn (s : State) (y : Sector) : Prop :=
  s.sectors[y].state = .erased ∧ ∀ y' : Sector, y' ≠ y → s.sectors[y'].state = .erased →
    s.sectors[y].eraseCount.toNat < s.sectors[y'].eraseCount.toNat ∨ (s.sectors[y].eraseCount = s.sectors[y'].eraseCount ∧ y < y')

/-- The least worn ERASED sector is the reserve only where it is the only one. -/
theorem State.reserveSector_ne {s : State} {y : Sector} (least : s.leastWorn y)
    (another : ∃ y' : Sector, y' ≠ y ∧ s.sectors[y'].state = .erased) : s.reserveSector ≠ some y := by
  obtain ⟨erased, best⟩ := least
  obtain ⟨other, apart, also⟩ := another
  refine selectBy_ne_of_worst (filter_allSectors_sorted _) ((s.mem_erasedSectors y).mpr erased) (fun b mem lower => ?_) (fun c mem higher => ?_)
    ⟨other, (s.mem_erasedSectors other).mpr also, apart⟩
  · refine decide_eq_false ?_
    rcases best b (Fin.ne_of_lt lower) ((s.mem_erasedSectors b).mp mem) with less | ⟨-, below⟩
    · omega
    · exact absurd below (Nat.lt_asymm lower)
  · refine decide_eq_true ?_
    rcases best c (Fin.ne_of_gt higher) ((s.mem_erasedSectors c).mp mem) with less | ⟨same, -⟩
    · omega
    · exact Nat.le_of_eq (by rw [same])

/-- An open request opens the least worn ERASED sector, the last one only where it may open the reserve. -/
theorem State.chooseOpen_of_leastWorn {s : State} {y : Sector} {allowReserve : Bool} (least : s.leastWorn y)
    (another : allowReserve = false → ∃ y' : Sector, y' ≠ y ∧ s.sectors[y'].state = .erased) : s.chooseOpen allowReserve = some y := by
  have mem := (s.mem_erasedSectors y).mpr least.1
  have sorted : s.erasedSectors.Pairwise (· < ·) := filter_allSectors_sorted _
  have picks (candidates : List Sector) (sub : ∀ z ∈ candidates, z ∈ s.erasedSectors) (ascending : candidates.Pairwise (· < ·))
      (here : y ∈ candidates) :
      selectBy (fun b best => decide (s.sectors[b].eraseCount.toNat < s.sectors[best].eraseCount.toNat)) candidates = some y := by
    refine selectBy_of_best ascending here (fun b inside lower => decide_eq_true ?_) (fun c inside higher => decide_eq_false ?_)
    · rcases least.2 b (Fin.ne_of_lt lower) ((s.mem_erasedSectors b).mp (sub b inside)) with less | ⟨-, below⟩
      · exact less
      · exact absurd below (Nat.lt_asymm lower)
    · rcases least.2 c (Fin.ne_of_gt higher) ((s.mem_erasedSectors c).mp (sub c inside)) with less | ⟨same, -⟩
      · omega
      · rw [same]
        exact Nat.lt_irrefl _
  rw [State.chooseOpen]
  cases list : s.erasedSectors with
  | nil => rw [list] at mem; cases mem
  | cons x rest =>
    cases rest with
    | nil =>
      rw [list] at mem
      obtain rfl := List.mem_singleton.mp mem
      cases allowReserve with
      | true =>
        have only : s.openCandidates true = [y] := by
          unfold State.openCandidates
          rw [list]
          rfl
        rw [only]
        rfl
      | false =>
        obtain ⟨other, apart, also⟩ := another rfl
        have inside := (s.mem_erasedSectors other).mpr also
        rw [list] at inside
        exact absurd (List.mem_singleton.mp inside) apart
    | cons x' rest' =>
      have two : ∃ y' : Sector, y' ≠ y ∧ s.sectors[y'].state = .erased := by
        have distinct : x ≠ x' := by
          rw [list] at sorted
          exact Fin.ne_of_lt ((List.pairwise_cons.mp sorted).1 x' List.mem_cons_self)
        have here (z : Sector) (z_mem : z ∈ x :: x' :: rest') : s.sectors[z].state = .erased :=
          (s.mem_erasedSectors z).mp (list ▸ z_mem)
        by_cases first : x = y
        · exact ⟨x', fun e => distinct (first.trans e.symm), here x' (List.mem_cons_of_mem _ List.mem_cons_self)⟩
        · exact ⟨x, first, here x List.mem_cons_self⟩
      have candidates : s.openCandidates allowReserve = s.erasedSectors.filter fun x => !(some x == s.reserveSector) := by
        unfold State.openCandidates
        rw [list]
      rw [candidates]
      refine picks _ (fun z inside => (List.mem_filter.mp inside).1) (sorted.filter _) (List.mem_filter.mpr ⟨mem, ?_⟩)
      have kept := State.reserveSector_ne least two
      simpa using fun e => kept e.symm

/-! ### The OPEN sector -/

/-- A sector with its open sequence and cursor, where it is OPEN. -/
def State.openedAt (s : State) (x : Sector) : Option (Sector × Word32 × Nat) :=
  match s.sectors[x].state with
  | .opened v c => some (x, v, c)
  | _ => none

theorem State.openSector_eq (s : State) : s.openSector = allSectors.findSome? s.openedAt := rfl

theorem State.openedAt_eq_some {s : State} {x y : Sector} {q : Word32} {c : Nat} (h : s.openedAt x = some (y, q, c)) :
    x = y ∧ s.sectors[x].state = .opened q c := by
  unfold State.openedAt at h
  cases state : s.sectors[x].state with
  | opened v d =>
    rw [state] at h
    cases h
    exact ⟨rfl, rfl⟩
  | _ => rw [state] at h; cases h

theorem State.openedAt_eq_none {s : State} {x : Sector} (other : ∀ q c, s.sectors[x].state ≠ .opened q c) : s.openedAt x = none := by
  unfold State.openedAt
  cases state : s.sectors[x].state with
  | opened v c => exact absurd state (other v c)
  | _ => rfl

theorem State.openedAt_of_opened {s : State} {x : Sector} {q : Word32} {c : Nat} (here : s.sectors[x].state = .opened q c) :
    s.openedAt x = some (x, q, c) := by
  unfold State.openedAt
  rw [here]

/-- The OPEN sector of the state is OPEN with the sequence and cursor it gives. -/
theorem State.state_of_openSector {s : State} {y : Sector} {q : Word32} {c : Nat} (found : s.openSector = some (y, q, c)) :
    s.sectors[y].state = .opened q c := by
  obtain ⟨x, -, here⟩ := List.exists_of_findSome?_eq_some found
  obtain ⟨rfl, state⟩ := State.openedAt_eq_some (s := s) here
  exact state

/-- The OPEN sector depends on the states of sectors alone. -/
theorem State.openSector_congr {s t : State} (same : ∀ z : Sector, t.sectors[z].state = s.sectors[z].state) : t.openSector = s.openSector := by
  have each : t.openedAt = s.openedAt := funext fun x => by rw [State.openedAt, State.openedAt, same]
  rw [State.openSector_eq, State.openSector_eq, each]

theorem State.openSector_of_none {s : State} (absent : ∀ (z : Sector) (q : Word32) (c : Nat), s.sectors[z].state ≠ .opened q c) :
    s.openSector = none :=
  List.findSome?_eq_none_iff.mpr fun x _ => State.openedAt_eq_none (absent x)

theorem State.openSector_of_only {s : State} {y : Sector} {q : Word32} {c : Nat} (here : s.sectors[y].state = .opened q c)
    (only : ∀ z : Sector, z ≠ y → ∀ (q : Word32) (c : Nat), s.sectors[z].state ≠ .opened q c) : s.openSector = some (y, q, c) := by
  cases found : s.openSector with
  | none =>
    have absent : s.openedAt y = none := List.findSome?_eq_none_iff.mp found y (mem_allSectors y)
    rw [State.openedAt_of_opened here] at absent
    cases absent
  | some p =>
    obtain ⟨x, v, d⟩ := p
    have state := State.state_of_openSector found
    by_cases same : x = y
    · subst same
      rw [here] at state
      cases state
      rfl
    · exact absurd state (only x same v d)

/-! ### Image programs and openings for both writers (R60, R62) -/

section
variable {s : State} {w : Writer} {x : Writing}

/-- An image program starts in an OPEN sector (R62). -/
theorem State.startImage_of_opened {y : Sector} {q : Word32} {c : Nat} (opened : s.sectors[y].state = .opened q c) (w : Writer) (i : Image) :
    s.startImage w i y c = { s with
      sectors := s.sectors.set y { s.sectors[y] with state := .opened q (c + i.lines), pending := s.sectors[y].pending + i.lines }
      ops := s.ops ++ [.image w ⟨y, c⟩ 0 i.headerLine (s.array.readLine ⟨y, c⟩ &&& i.headerLine)] } := by
  rw [State.startImage, State.modSector, opened]
  rfl

/-- Both writers place an image by the same steps; they differ in their open request (R75, R103). -/
theorem State.makeRoom_of_writing (writes : s.writing w = some x) :
    s.makeRoom w = s.placeImage w x.image fun t => t.openAgain w := by
  cases w
  · simp only [State.makeRoom, State.ensureRoom, writes]
    rfl
  · simp only [State.makeRoom, State.roomForCopy, writes]
    rfl

theorem State.makeRoom_of_fits {y : Sector} {q : Word32} {c : Nat} (writes : s.writing w = some x) (opened : s.openSector = some (y, q, c))
    (fits : x.image.lines ≤ 256 - c) : s.makeRoom w = s.startImage w x.image y c := by
  rw [State.makeRoom_of_writing writes, State.placeImage, opened]
  exact if_pos (decide_eq_true fits)

theorem State.makeRoom_of_full {y : Sector} {q : Word32} {c : Nat} (writes : s.writing w = some x) (opened : s.openSector = some (y, q, c))
    (full : 256 - c < x.image.lines) : s.makeRoom w = s.requestFull y (.close w) := by
  rw [State.makeRoom_of_writing writes, State.placeImage, opened]
  exact if_neg (by simpa [imageFits] using full)

theorem State.makeRoom_of_none (writes : s.writing w = some x) (none' : s.openSector = none) : s.makeRoom w = s.openAgain w := by
  rw [State.makeRoom_of_writing writes, State.placeImage, none']

/-- An open request opens the least worn ERASED sector, which for a job is not the last one. -/
theorem State.openAgain_of_leastWorn {y : Sector} (least : s.leastWorn y)
    (another : w = .host → ∃ y' : Sector, y' ≠ y ∧ s.sectors[y'].state = .erased) : s.openAgain w = s.requestOpen w y := by
  cases w with
  | host => simp only [State.openAgain, State.openForHost, State.chooseOpen_of_leastWorn (allowReserve := false) least fun _ => another rfl]
  | reclaim => simp only [State.openAgain, State.openForCopy, State.chooseOpen_of_leastWorn (allowReserve := true) least nofun]

theorem State.ladder_one (s : State) (w : Writer) : s.ladder w 1 = s.makeRoom w := by
  cases w <;> rfl

theorem State.ladder_two_of_opened {y : Sector} {q : Word32} {c : Nat} (opened : s.openSector = some (y, q, c)) (w : Writer) :
    s.ladder w 2 = s.requestFull y (.close w) := by
  cases w <;> simp only [State.ladder, opened]

theorem State.ladder_two_of_none (none' : s.openSector = none) (w : Writer) : s.ladder w 2 = s.openAgain w := by
  cases w <;> simp only [State.ladder, none', State.openAgain]

theorem State.climb_of_writing (writes : s.writing w = some x) : s.climb w = s.ladder w x.failures := by
  rw [State.climb, writes]

/-- What a writer is writing after it has been set, where it writes. -/
theorem State.writing_setWriting (writes : s.writing w = some x) (y : Writing) : (s.setWriting w (some y)).writing w = some y := by
  cases w with
  | host =>
    obtain ⟨r, run, -⟩ := Option.bind_eq_some_iff.mp writes
    simp [State.setWriting, State.writing, run]
  | reclaim =>
    obtain ⟨p, pass, -⟩ := Option.bind_eq_some_iff.mp writes
    simp [State.setWriting, State.writing, pass]

/-- What a writer is writing depends on the job in progress and the pass alone. -/
theorem State.writing_congr {t : State} (running : t.running = s.running) (pass : t.pass = s.pass) : t.writing w = s.writing w := by
  cases w
  · rw [State.writing, State.writing, running]
  · rw [State.writing, State.writing, pass]

theorem State.markFull_of_opened {z : Sector} {v : Word32} {c : Nat} (opened : s.sectors[z].state = .opened v c) :
    s.markFull z = { s with sectors := s.sectors.set z { s.sectors[z] with
      state := .full v, stale := 255 - s.sectors[z].live - s.sectors[z].pending } } := by
  rw [State.markFull, State.modSector, opened]

end

/-- The record of a sector after one record has been replaced. -/
theorem getElem_set_sector {α : Type} (v : Vector α 32) (x z : Sector) (r : α) : (v.set x r)[z] = if z = x then r else v[z] := by
  simp only [Fin.getElem_fin, Vector.getElem_set]
  by_cases same : z = x
  · simp [same]
  · rw [if_neg fun e => same (Fin.ext e.symm), if_neg same]

end Sys2Proof.Machine
end

section
/-! PROOFS. The program-failure ladder of a job, a fold or a reclaim copy, up to its retries (R63, R85, R105). -/

namespace Sys2Proof.Machine

section
variable {s : State} {w : Writer} {x : Writing} {a : CellArray} {sectors : Vector SectorRecord 32} {start : Loc} {n : Nat}

/-- The state in which an image has failed: its lines are stale and the failure is counted. -/
def State.afterFailure (s : State) (w : Writer) (x : Writing) (a : CellArray) (sectors : Vector SectorRecord 32) (ops : List ArrayOp) : State :=
  ({ s with array := a, sectors := sectors, ops := ops } : State).setWriting w (some { x with failures := x.failures + 1 })

/-- The sector table in which the lines of a failed image are stale. -/
def State.failedSectors (s : State) (y : Sector) (lines : Nat) : Vector SectorRecord 32 :=
  s.sectors.set y { s.sectors[y] with pending := s.sectors[y].pending - lines, stale := s.sectors[y].stale + lines }

theorem State.failedSectors_state (s : State) (y z : Sector) (lines : Nat) : (s.failedSectors y lines)[z].state = s.sectors[z].state := by
  rw [State.failedSectors, getElem_set_sector]
  by_cases same : z = y
  · rw [if_pos same, same]
  · rw [if_neg same]

theorem State.afterFailure_array : (s.afterFailure w x a sectors []).array = a := by cases w <;> rfl
theorem State.afterFailure_sectors : (s.afterFailure w x a sectors []).sectors = sectors := by cases w <;> rfl

theorem State.afterFailure_writing (writes : s.writing w = some x) :
    (s.afterFailure w x a sectors []).writing w = some { x with failures := x.failures + 1 } :=
  State.writing_setWriting (s := { s with array := a, sectors := sectors, ops := [] }) (x := x)
    ((State.writing_congr rfl rfl).trans writes) _

/-- A line that fails makes its image stale and counts the failure; a failed header line closes its sector first (R63). -/
theorem State.lineFailed_eq (writes : s.writing w = some x) :
    (s.popOp [] a).lineFailed w start n
      = if n = 0 then (s.afterFailure w x a (s.failedSectors start.sector x.image.lines) []).requestFull start.sector (.closeFailed w)
        else (s.afterFailure w x a (s.failedSectors start.sector x.image.lines) []).climb w := by
  have popped : (s.popOp [] a).writing w = some x := (State.writing_congr rfl rfl).trans writes
  have stale : ((s.popOp [] a).pendingToStale start.sector x.image.lines).writing w = some x := (State.writing_congr rfl rfl).trans writes
  have counted : ((s.popOp [] a).pendingToStale start.sector x.image.lines).countFailure w
      = s.afterFailure w x a (s.failedSectors start.sector x.image.lines) [] := by
    rw [State.countFailure, stale]
    cases w <;> rfl
  rw [State.lineFailed, popped]
  dsimp only
  rw [counted]

/-- What the ladder does with a failed payload line while a sector is OPEN. -/
theorem State.climb_afterFailure {y : Sector} {q : Word32} {c lines : Nat} (writes : s.writing w = some x)
    (opened : s.openSector = some (y, q, c)) :
    (x.failures = 0 → x.image.lines ≤ 256 - c →
      (s.afterFailure w x a (s.failedSectors start.sector lines) []).climb w
        = (s.afterFailure w x a (s.failedSectors start.sector lines) []).startImage w x.image y c) ∧
    (x.failures = 1 ∨ (x.failures = 0 ∧ 256 - c < x.image.lines) →
      (s.afterFailure w x a (s.failedSectors start.sector lines) []).climb w
        = (s.afterFailure w x a (s.failedSectors start.sector lines) []).requestFull y (.close w)) := by
  have writing := State.afterFailure_writing (a := a) (sectors := s.failedSectors start.sector lines) writes
  have still : (s.afterFailure w x a (s.failedSectors start.sector lines) []).openSector = some (y, q, c) :=
    (State.openSector_congr fun z => by rw [State.afterFailure_sectors, State.failedSectors_state]).trans opened
  rw [State.climb_of_writing writing]
  constructor
  · intro first fits
    rw [first, Nat.zero_add, State.ladder_one]
    rw [first] at writing
    exact State.makeRoom_of_fits (x := { x with failures := 0 + 1 }) writing still fits
  · rintro (second | ⟨first, full⟩)
    · rw [second]
      exact State.ladder_two_of_opened still w
    · rw [first, Nat.zero_add, State.ladder_one]
      rw [first] at writing
      exact State.makeRoom_of_full (x := { x with failures := 0 + 1 }) writing still full

end

/-- A ladder step rests in the state it comes to, while the engine has the array. -/
theorem exec_lineProgramDone_engaged {s t : State} {readback : LineReadback} (released : s.held = false) (done : s.lineProgramDone readback = t)
    (engaged : t.engine ≠ .idle) (queue : ∀ cause, t.store = .readOnly cause → ∀ j ∈ t.queue, j.work = .format) :
    exec (.lineProgramDone readback) s = .next t := by
  rw [exec_lineProgramDone released, done, State.settle_of_engaged engaged queue]

/-- A line that reads back otherwise than expected fails. -/
theorem State.lineProgramDone_of_failed {s : State} {w : Writer} {start : Loc} {n : Nat} {pattern expected : Line} {rest : List ArrayOp}
    {bits : HeaderLine} (ops : s.ops = .image w start n pattern expected :: rest)
    (differs : s.array.readLine ⟨start.sector, start.line + n⟩ &&& bits.setWidth 128 ≠ expected) :
    s.lineProgramDone (.reads bits) = (s.popOp rest (s.array.writeLine ⟨start.sector, start.line + n⟩
      (s.array.readLine ⟨start.sector, start.line + n⟩ &&& bits.setWidth 128))).lineFailed w start n := by
  rw [State.lineProgramDone_of_image (.reads bits) ops]
  exact if_neg differs

/-- A header program completes, with PASS or FAIL (R49). -/
theorem State.lineProgramDone_of_header_only {s : State} {z : Sector} {field : HeaderField} {pattern expected : HeaderLine}
    (readback : LineReadback) (ops : s.ops = [.header z field pattern expected]) :
    s.lineProgramDone readback
      = (s.popOp [] (s.array.writeHeader z (contentAfter readback s.array.headers[z] expected))).headerDone z
          (decide (contentAfter readback s.array.headers[z] expected = expected)) field :=
  State.lineProgramDone_of_header readback ops

/-- Settles O31: the three events of the ladder. -/
theorem failedImagesClimbTheLadder : Obligations.FailedImagesClimbTheLadder := by
  intro s w x released engaged writes formats lines full opened
  refine ⟨?line, ?mark, ?sequence⟩
  case line =>
    intro start n pattern expected bits ops differs array failed after
    have fails := State.lineProgramDone_of_failed ops differs
    rw [State.lineFailed_eq writes] at fails
    have rests {t : State} (done : s.lineProgramDone (.reads bits) = t) (engine : t.engine = s.engine) (store : t.store = s.store)
        (queue : t.queue = s.queue) : exec (.lineProgramDone (.reads bits)) s = .next t :=
      exec_lineProgramDone_engaged released done (by rw [engine]; exact engaged) (by rw [store, queue]; exact formats)
    have closes (y : Sector) (field : HeaderField) : (s.afterFailure w x array failed []).requestFull y field = after failed (full y field) := by
      cases w <;> rfl
    constructor
    · intro first
      rw [if_pos first] at fails
      exact rests (fails.trans (closes ..)) (by cases w <;> rfl) (by cases w <;> rfl) (by cases w <;> rfl)
    · intro y q c later found
      rw [if_neg (by omega)] at fails
      obtain ⟨again, close⟩ := State.climb_afterFailure (a := array) (start := start) (lines := lines) writes found
      constructor
      · intro first fits
        refine rests (fails.trans ((again first fits).trans ?_)) (by cases w <;> rfl) (by cases w <;> rfl) (by cases w <;> rfl)
        have state : (s.afterFailure w x array failed []).sectors[y].state = .opened q c := by
          rw [State.afterFailure_sectors]
          exact (s.failedSectors_state start.sector y lines).trans (State.state_of_openSector found)
        refine (State.startImage_of_opened state w x.image).trans ?_
        cases w <;> rfl
      · intro last
        exact rests (fails.trans ((close last).trans (closes ..))) (by cases w <;> rfl) (by cases w <;> rfl) (by cases w <;> rfl)
  case mark =>
    intro z y v c field pattern expected readback ops fields here only erased least another
    have apart : y ≠ z := fun e => by rw [e, here] at erased; cases erased
    let closed : Vector SectorRecord 32 := s.sectors.set z { s.sectors[z] with
      state := .full v, stale := 255 - s.sectors[z].live - s.sectors[z].pending }
    let t : State := { s with
      array := { s.array with headers := s.array.headers.set z (contentAfter readback s.array.headers[z] expected) }
      sectors := closed
      ops := [] }
    have record (z' : Sector) : t.sectors[z'] = if z' = z then { s.sectors[z] with
        state := .full v, stale := 255 - s.sectors[z].live - s.sectors[z].pending } else s.sectors[z'] :=
      getElem_set_sector s.sectors z z' _
    have writing : t.writing w = some x := (State.writing_congr rfl rfl).trans writes
    have none' : t.openSector = none := State.openSector_of_none fun z' q d => by
      rw [record]
      by_cases same : z' = z
      · rw [if_pos same]
        nofun
      · rw [if_neg same]
        exact fun state => only z' same ⟨q, d, state⟩
    have worn : t.leastWorn y := by
      refine ⟨by rw [record, if_neg apart]; exact erased, fun y' other also => ?_⟩
      have outside : y' ≠ z := fun e => by rw [record, if_pos e] at also; cases also
      rw [record, record, if_neg apart, if_neg outside]
      rw [record, if_neg outside] at also
      exact least y' other also
    have second : w = .host → ∃ y' : Sector, y' ≠ y ∧ t.sectors[y'].state = .erased := fun host => by
      obtain ⟨y', other, also⟩ := another host
      refine ⟨y', other, ?_⟩
      rw [record, if_neg fun e => by rw [e, here] at also; cases also]
      exact also
    have done : s.lineProgramDone readback = t.openAgain w := by
      rw [State.lineProgramDone_of_header_only readback ops]
      have closing : (s.popOp [] (s.array.writeHeader z (contentAfter readback s.array.headers[z] expected))).markFull z = t :=
        State.markFull_of_opened (s := s.popOp [] (s.array.writeHeader z (contentAfter readback s.array.headers[z] expected))) here
      rcases fields with rfl | ⟨rfl, failures⟩
      · exact congrArg (State.openAgain · w) closing
      · refine (congrArg (State.climb · w) closing).trans ?_
        rw [State.climb_of_writing writing]
        rcases failures with first | second
        · rw [first, State.ladder_one]
          exact State.makeRoom_of_none writing none'
        · rw [second]
          exact State.ladder_two_of_none none' w
    rw [State.openAgain_of_leastWorn worn second] at done
    refine exec_lineProgramDone_engaged released (done.trans ?_) engaged formats
    have header : t.array.headers[y] = s.array.headers[y] := (getElem_set_sector s.array.headers z y _).trans (if_neg apart)
    rw [State.requestOpen, State.requestHeader]
    change State.request _ (.header y _ _ (t.array.headers[y] &&& _)) = _
    rw [header]
    rfl
  case sequence =>
    intro y q pattern expected ops only fits
    let t : State := { s with
      array := { s.array with headers := s.array.headers.set y expected }
      sectors := s.sectors.set y ⟨.opened q 1, s.sectors[y].eraseCount, 0, 0, 0⟩
      ops := [] }
    have record (z : Sector) : t.sectors[z] = if z = y then ⟨.opened q 1, s.sectors[y].eraseCount, 0, 0, 0⟩ else s.sectors[z] :=
      getElem_set_sector s.sectors y z _
    have state : t.sectors[y].state = .opened q 1 := by rw [record, if_pos rfl]
    have found : t.openSector = some (y, q, 1) := State.openSector_of_only state fun z other q' d => by
      rw [record, if_neg other]
      exact fun also => only z other ⟨q', d, also⟩
    have writing : t.writing w = some x := (State.writing_congr rfl rfl).trans writes
    have done : s.lineProgramDone .asExpected = t.makeRoom w := State.lineProgramDone_of_header_passed ops
    rw [State.makeRoom_of_fits writing found fits, State.startImage_of_opened state] at done
    refine exec_lineProgramDone_engaged released (done.trans ?_) engaged formats
    have twice : t.sectors.set y { t.sectors[y] with state := .opened q (1 + x.image.lines), pending := t.sectors[y].pending + x.image.lines }
        = s.sectors.set y ⟨.opened q (1 + lines), s.sectors[y].eraseCount, 0, lines, 0⟩ := by
      rw [record, if_pos rfl, Nat.zero_add]
      exact Vector.set_set ..
    rw [twice]
    rfl

end Sys2Proof.Machine
end

section
/-! PROOFS. The start of a job that writes images (R72, R73, R75, R84). -/

namespace Sys2Proof.Machine

/-- The lines of an image whose value, if it has one, is all that follows its header line (R14). -/
theorem Image.lines_eq {i : Image} (carries : i.kind = .value ∨ i.value = []) : i.lines = 1 + (i.value.length + 15) / 16 := by
  rcases carries with value | empty
  · rw [Image.lines, value]
    rfl
  · rw [Image.lines, empty]
    cases i.kind <;> rfl

section
variable {s : State}

/-- JOB_START of a job that writes images: it takes the generation and begins its images. -/
theorem State.jobStart_of_writes {j : Job} {rest : List Job} (idle : s.engine = .idle) (normal : s.supply = .normal)
    (queue : s.queue = j :: rest) (writes : j.work.writes = true) :
    s.jobStart = (s.handed rest (j.taken s.generationNext) (generationAfter s.generationNext)).beginWriting (j.taken s.generationNext) :=
  (State.jobStart_of_idle idle normal queue).trans (s.startJob_of_writes writes rest)

/-- The counter stays at its highest value (R3, R4). -/
theorem generationAfter_eq (g : Gen) : generationAfter g = if g = 0xFFFFFFFF then 0xFFFFFFFF else g + 1 := by
  rw [generationAfter, saturatingSucc]
  by_cases last : g = 0xFFFFFFFF
  · rw [if_pos last, if_pos (last.trans (by decide)), last]
  · rw [if_neg last, if_neg fun e => last (e.trans (by decide))]

/-- The state in which a job has begun an image in the OPEN sector. -/
def State.beganImage (s : State) (r : Running) (i : Image) (source : Option Loc) (x : Sector) (q : Word32) (c lines : Nat) : State :=
  { s with
    running := some { r with writing := some ⟨i, source, 0⟩ }
    sectors := s.sectors.set x { s.sectors[x] with state := .opened q (c + lines), pending := s.sectors[x].pending + lines }
    ops := s.ops ++ [.image .host ⟨x, c⟩ 0 i.headerLine (s.array.readLine ⟨x, c⟩ &&& i.headerLine)] }

/-- With room in the OPEN sector the program of an image starts at the cursor (R62, R75). -/
theorem State.beginImage_of_fits {r : Running} {i : Image} {x : Sector} {q : Word32} {c lines : Nat} (run : s.running = some r)
    (opened : s.openSector = some (x, q, c)) (size : i.lines = lines) (fits : lines ≤ 256 - c) (source : Option Loc) :
    s.beginImage i source = s.beganImage r i source x q c lines := by
  subst size
  have set : s.setWriting .host (some ⟨i, source, 0⟩) = { s with running := some { r with writing := some ⟨i, source, 0⟩ } } := by
    rw [State.setWriting, run]
    rfl
  have state : s.sectors[x].state = .opened q c := State.state_of_openSector opened
  rw [State.beginImage, set]
  refine (State.makeRoom_of_fits (s := { s with running := some { r with writing := some ⟨i, source, 0⟩ } }) (w := .host)
    (x := ⟨i, source, 0⟩) rfl ((State.openSector_congr fun _ => rfl).trans opened) fits).trans ?_
  exact State.startImage_of_opened (s := { s with running := some { r with writing := some ⟨i, source, 0⟩ } }) state .host i

/-- A job with no image placed goes on with the first of its images. -/
theorem State.nextImage_of_first {r : Running} {i : Image} {later : List Image} (run : s.running = some r) (placed : r.placed = [])
    (images : s.jobImages r.job.work r.generation = i :: later) : s.nextImage = s.beginImage i none := by
  rw [State.nextImage, run]
  simp only [placed, images]
  rfl

/-- The images of a job begin with the first one where no fold is needed (R73). -/
theorem State.beginWriting_of_no_fold {r : Running} (free : s.mustFold r = false) : s.beginWriting r = s.nextImage := by
  unfold State.beginWriting
  cases s.oldestMark with
  | none => rfl
  | some m => rw [free]; rfl

/-- A job that starts rests with the image it has begun. -/
theorem exec_jobStart_began {t : State} {r : Running} {i : Image} {source : Option Loc} {x : Sector} {q : Word32} {c lines : Nat}
    (released : s.held = false) (starts : s.jobStart = t.beganImage r i source x q c lines) (engaged : t.engine ≠ .idle) (ready : t.store = .ready) :
    exec .jobStart s = .next (t.beganImage r i source x q c lines) := by
  rw [exec_jobStart released, starts]
  exact congrArg Host.Outcome.next (State.settle_of_engaged engaged fun cause readOnly => by
    rw [show (t.beganImage r i source x q c lines).store = t.store from rfl, ready] at readOnly
    cases readOnly)

end

/-- A job with one record image writes no other. -/
theorem State.jobImages_of_one {s : State} {work : Work} {g : Gen} {i : Image} (one : s.recordImages work g = [i]) :
    s.jobImages work g = [i] := by
  simp only [State.jobImages, one]
  rfl

theorem State.mustFold_of_one {s : State} {r : Running} {i : Image} (one : s.recordImages r.job.work r.generation = [i]) :
    s.mustFold r = false := by
  rw [State.mustFold, one]
  rfl

/-- Settles O36: the three jobs write one record image and need no fold. -/
theorem singleImageJobStarts : Obligations.SingleImageJobStarts := by
  intro s j rest image x q c released idle normal ready queue work opened fits
  have lines : image.lines = 1 + (image.value.length + 15) / 16 := by
    rcases work with ⟨k, v, -, rfl⟩ | ⟨k, -, rfl⟩ | ⟨table, -, rfl⟩
    · exact Image.lines_eq (.inl rfl)
    · exact Image.lines_eq (.inr rfl)
    · exact Image.lines_eq (.inl rfl)
  have one (t : State) : t.recordImages j.work s.generationNext = [image] := by
    rcases work with ⟨k, v, work, rfl⟩ | ⟨k, work, rfl⟩ | ⟨table, work, rfl⟩ <;> (rw [work]; rfl)
  have writes : j.work.writes = true := by
    rcases work with ⟨k, v, work, -⟩ | ⟨k, work, -⟩ | ⟨table, work, -⟩ <;> (rw [work]; rfl)
  let t : State := s.handed rest (j.taken s.generationNext) (generationAfter s.generationNext)
  have starts : s.jobStart = t.beganImage (j.taken s.generationNext) image none x q c (1 + (image.value.length + 15) / 16) := by
    rw [State.jobStart_of_writes idle normal queue writes, State.beginWriting_of_no_fold (State.mustFold_of_one (one _)),
      State.nextImage_of_first rfl rfl (State.jobImages_of_one (one _))]
    exact State.beginImage_of_fits (s := t) rfl ((State.openSector_congr fun _ => rfl).trans opened) lines fits none
  rw [← generationAfter_eq]
  exact exec_jobStart_began released starts nofun ready

/-! ### The fold before a COMMIT (R84) -/

theorem foldl_keepBest_least {α : Type} {f : α → Nat} (a : α) : ∀ (rest : List α) (n : α), n ∈ a :: rest →
    f (rest.foldl (keepBest fun b best => decide (f b < f best)) a) ≤ f n
  | [], n, mem => by rw [List.mem_singleton.mp mem]; exact Nat.le_refl _
  | b :: rest, n, mem => by
    have first : f (keepBest (fun b best => decide (f b < f best)) a b) ≤ f a ∧ f (keepBest (fun b best => decide (f b < f best)) a b) ≤ f b := by
      rw [keepBest]
      by_cases less : f b < f a
      · rw [if_pos (decide_eq_true less)]
        omega
      · rw [if_neg (by simpa using less)]
        omega
    have ih := foldl_keepBest_least (f := f) (keepBest (fun b best => decide (f b < f best)) a b) rest
    rw [List.foldl_cons]
    rcases List.mem_cons.mp mem with rfl | mem
    · exact Nat.le_trans (ih _ List.mem_cons_self) first.1
    · rcases List.mem_cons.mp mem with rfl | mem
      · exact Nat.le_trans (ih _ List.mem_cons_self) first.2
      · exact ih n (List.mem_cons_of_mem _ mem)

/-- An element with the lowest value is chosen. -/
theorem selectBy_lowest {α : Type} {f : α → Nat} {xs : List α} {m : α} (mem : m ∈ xs) (least : ∀ n ∈ xs, f m ≤ f n) :
    ∃ n, selectBy (fun b best => decide (f b < f best)) xs = some n ∧ f n = f m := by
  cases xs with
  | nil => cases mem
  | cons a rest =>
    exact ⟨_, selectBy_cons .., Nat.le_antisymm (foldl_keepBest_least a rest m mem) (least _ (foldl_keepBest_mem _ a rest))⟩

section
variable {s : State}

/-- With two or more entries and a full mark table the oldest mark is folded first (R73, R84). -/
theorem State.beginWriting_of_fold {r : Running} {m : MarkEntry} (run : s.running = some r) (must : s.mustFold r = true)
    (mem : m ∈ s.marks) (least : ∀ n ∈ s.marks, m.generation.toNat ≤ n.generation.toNat) :
    s.beginWriting r
      = ({ s with running := some { r with fold := some ⟨m.generation, 0⟩ }, engine := .folding } : State).foldStep ⟨m.generation, 0⟩ := by
  obtain ⟨n, chosen, same⟩ := selectBy_lowest (f := fun n : MarkEntry => n.generation.toNat) mem least
  have oldest : s.oldestMark = some n := chosen
  unfold State.beginWriting
  simp only [oldest, must, if_true, State.modRunning, run, BitVec.eq_of_toNat_eq same]
  rfl

/-- A fold's walk begins with the first entry that depends on the folded generation (R84). -/
theorem State.foldTarget_of_start (s : State) (g : Gen) :
    s.foldTarget ⟨g, 0⟩ = s.directory.find? (fun d => decide (d.generation = g ∧ d.tagging = .tagged)) := by
  simp [State.foldTarget]

theorem State.foldCopy_eq (s : State) (e : DirEntry) : s.foldCopy e = match e.state with
    | .live => ⟨.value, .solo, e.key, e.generation, s.array.readValue e.loc e.length⟩
    | .deleted => ⟨.tombstone, .solo, e.key, e.generation, []⟩ := by
  unfold State.foldCopy
  cases e.state <;> rfl

theorem State.foldCopy_lines (s : State) (e : DirEntry) : (s.foldCopy e).lines = 1 + ((s.foldCopy e).value.length + 15) / 16 := by
  refine Image.lines_eq ?_
  unfold State.foldCopy
  cases e.state
  · exact .inl rfl
  · exact .inr rfl

theorem State.foldStep_of_target {f : Fold} {e : DirEntry} (target : s.foldTarget f = some e) :
    s.foldStep f = s.beginImage (s.foldCopy e) (some e.loc) := by
  rw [State.foldStep, target]

end

/-- Settles O37: one entry or room in the mark table leaves out the fold. -/
theorem commitStarts : Obligations.CommitStarts := by
  intro s j rest h owner timeout a more ticket x q c released idle normal ready queue work committing opened
  have writes : j.work.writes = true := by rw [work]; rfl
  let t : State := s.handed rest (j.taken s.generationNext) (generationAfter s.generationNext)
  have starts := State.jobStart_of_writes idle normal queue writes
  have staged : t.recordImages j.work s.generationNext = stagedImages (a :: more) s.generationNext := by
    rw [work]
    exact congrArg (fun e : Context => stagedImages e.staged s.generationNext) committing
  rw [← generationAfter_eq]
  constructor
  · intro free image fits
    have first : image = a.image (if 2 ≤ (a :: more).length then .tagged else .solo) s.generationNext := by
      have tag : (if 2 ≤ (a :: more).length then Tagging.tagged else .solo) = if more = [] then .solo else .tagged := by
        cases more <;> simp
      rw [tag]
      rfl
    have lines : image.lines = 1 + (image.value.length + 15) / 16 := by
      refine Image.lines_eq ?_
      rw [first, Staged.image]
      cases a.change
      · exact .inl rfl
      · exact .inr rfl
    have unfolded : t.mustFold (j.taken s.generationNext) = false := by
      have count : (t.recordImages j.work s.generationNext).length = more.length + 1 := by
        rw [staged]
        simp [stagedImages]
      rw [State.mustFold]
      change (decide (2 ≤ (t.recordImages j.work s.generationNext).length) && decide (16 ≤ s.marks.length)) = false
      rw [count]
      rcases free with rfl | room
      · rfl
      · rw [decide_eq_false (p := 16 ≤ s.marks.length) (by omega), Bool.and_false]
    obtain ⟨later, images⟩ : ∃ later, t.jobImages j.work s.generationNext = image :: later := by
      rw [State.jobImages, staged, first]
      split
      · exact ⟨_, rfl⟩
      · exact ⟨_, rfl⟩
    change s.jobStart = t.beginWriting (j.taken s.generationNext) at starts
    rw [State.beginWriting_of_no_fold unfolded, State.nextImage_of_first (i := image) rfl rfl images,
      State.beginImage_of_fits (s := t) rfl ((State.openSector_congr fun _ => rfl).trans opened) lines fits none] at starts
    exact exec_jobStart_began released starts nofun ready
  · intro m e several full mem least found image fits
    have generation : e.generation = m.generation := by
      have meets := List.find?_some found
      exact (of_decide_eq_true meets).1
    have must : t.mustFold (j.taken s.generationNext) = true := by
      rw [State.mustFold]
      change (decide (2 ≤ (t.recordImages j.work s.generationNext).length) && decide (16 ≤ s.marks.length)) = true
      rw [staged, decide_eq_true full, Bool.and_true]
      refine decide_eq_true ?_
      rw [stagedImages, List.length_map, List.length_cons]
      exact Nat.succ_le_succ (List.length_pos_iff.mpr several)
    let u : State := { t with running := some { j.taken s.generationNext with fold := some ⟨m.generation, 0⟩ }, engine := .folding }
    have copy : u.foldCopy e = image := by
      rw [State.foldCopy_eq, generation]
      rfl
    have lines : image.lines = 1 + (image.value.length + 15) / 16 := copy ▸ u.foldCopy_lines e
    have target : u.foldTarget ⟨m.generation, 0⟩ = some e := (u.foldTarget_of_start m.generation).trans found
    rw [State.beginWriting_of_fold rfl must mem least] at starts
    change s.jobStart = u.foldStep ⟨m.generation, 0⟩ at starts
    rw [State.foldStep_of_target target, copy, State.beginImage_of_fits (s := u) rfl ((State.openSector_congr fun _ => rfl).trans opened) lines fits (some e.loc)] at starts
    exact exec_jobStart_began released starts nofun ready

end Sys2Proof.Machine
end

section
/-! PROOFS. The start of a FORMAT (R39, R72, R79, R80). -/

namespace Sys2Proof.Machine

/-- The context is OPEN. -/
def Context.isOpened : Context → Bool
  | .opened .. => true
  | _ => false

theorem State.setContext_self (s : State) (h : Handle) : s.setContext h (s.context h) = s := by
  rw [State.setContext, State.context]
  exact congrArg (fun contexts => { s with contexts := contexts }) (Vector.set_getElem_self ..)

/-- An expiry is one context of a sweep in which every OPEN context is due. -/
theorem State.passContext_isOpened (s : State) (h : Handle) : s.passContext Context.isOpened id h = s.expire h := by
  rw [State.passContext]
  cases context : s.context h with
  | opened owner timeout idle staged => rfl
  | free =>
    rw [if_neg nofun, State.expire, context]
    exact (congrArg (s.setContext h) context.symm).trans (s.setContext_self h)
  | committing owner timeout staged ticket =>
    rw [if_neg nofun, State.expire, context]
    exact (congrArg (s.setContext h) context.symm).trans (s.setContext_self h)

/-- The expiries of all contexts are a sweep in which every OPEN one is due. -/
theorem State.expire_swept (s : State) : State.Swept Context.isOpened id allHandles s (allHandles.foldl State.expire s) := by
  have same : State.passContext Context.isOpened id = State.expire := funext fun t => funext fun h => t.passContext_isOpened h
  have swept := State.swept_foldl (due := Context.isOpened) (after := id) (fun c due => ?_) allHandles s nodup_allHandles
  · rw [same] at swept
    exact swept
  · cases c with
    | opened owner timeout idle staged => exact ⟨owner, timeout, idle, staged, rfl⟩
    | _ => cases due

/-- What a sweep leaves, as the state before it with the parts that it changes. -/
theorem State.Swept.eq {due : Context → Bool} {after : Context → Context} {hs : List Handle} {s t : State} (swept : State.Swept due after hs s t) :
    t = { s with contexts := t.contexts, holds := t.holds, poolFree := t.poolFree, lf0 := t.lf0, lf1 := t.lf1, attn := t.attn } :=
  congrArg (fun u : State => { u with
    contexts := t.contexts, holds := t.holds, poolFree := t.poolFree, lf0 := t.lf0, lf1 := t.lf1, attn := t.attn }) swept.frame

/-- The state in which a FORMAT has emptied the tables and announced itself. -/
def State.formatCleared (s : State) : State :=
  ({ s.staleAll with
    epoch := s.epoch + 1
    directory := []
    marks := []
    zones := Vector.replicate 8 none
    pass := none } : State).announceStore .formatting

theorem State.formatStart_eq (s : State) (r : Running) :
    s.formatStart r = (allHandles.foldl State.expire s.formatCleared).formatNextSector r := rfl

theorem State.formatCleared_frame (s : State) : s.formatCleared = { s with
    store := .formatting, epoch := s.epoch + 1, directory := [], marks := [], zones := Vector.replicate 8 none, pass := none
    sectors := s.formatCleared.sectors, lf0 := s.formatCleared.lf0, lf1 := s.formatCleared.lf1, attn := s.formatCleared.attn } := by
  rw [State.formatCleared, s.staleAll_frame]
  rfl

theorem State.formatCleared_sector (s : State) (x : Sector) :
    s.formatCleared.sectors[x] = { s.sectors[x] with live := 0, stale := s.sectors[x].stale + s.sectors[x].live } :=
  s.staleAll_sector x

theorem State.formatCleared_link (s : State) (l : Link) : s.formatCleared.link l = (s.link l).offer (.storeState .formatting) := by
  rw [State.formatCleared, State.announceStore, State.link_offerBoth, s.staleAll_frame]
  cases l <;> rfl

/-- Settles O38: what the start empties, then the expiries, then the first sector. -/
theorem formatStarts : Obligations.FormatStarts := by
  intro s j y released idle normal queue work here before open'
  have open_eq : open' = fun h => (s.context h).isOpened := funext fun h => by
    change (match s.context h with
       | .opened .. => true
       | _ => false) = _
    cases s.context h <;> rfl
  clear_value open'
  subst open_eq
  let r : Running := j.taken 0
  have start : s.jobStart = (allHandles.foldl State.expire (s.handed [] r s.generationNext).formatCleared).formatNextSector r := by
    rw [State.jobStart_of_idle idle normal queue, s.startJob_of_format work, State.formatStart_eq]
  obtain ⟨cleared, records, announced, clears⟩ : ∃ cleared : State,
      (∀ x : Sector, cleared.sectors[x] = { s.sectors[x] with live := 0, stale := s.sectors[x].stale + s.sectors[x].live }) ∧
      (∀ l : Link, cleared.link l = (s.link l).offer (.storeState .formatting)) ∧
      (s.handed [] r s.generationNext).formatCleared = cleared :=
    ⟨_, (s.handed [] r s.generationNext).formatCleared_sector, (s.handed [] r s.generationNext).formatCleared_link, rfl⟩
  have empties := (s.handed [] r s.generationNext).formatCleared_frame
  rw [clears] at start empties
  have sweeps := cleared.expire_swept
  generalize allHandles.foldl State.expire cleared = swept at start sweeps
  have frame : swept = { s with
      store := .formatting, epoch := s.epoch + 1, directory := [], marks := [], zones := Vector.replicate 8 none, pass := none, queue := []
      running := some r, engine := .running, sectors := cleared.sectors, contexts := swept.contexts, holds := swept.holds
      poolFree := swept.poolFree, lf0 := swept.lf0, lf1 := swept.lf1, attn := swept.attn } :=
    sweeps.eq.trans (congrArg (fun t : State => { t with
      contexts := swept.contexts, holds := swept.holds, poolFree := swept.poolFree
      lf0 := swept.lf0, lf1 := swept.lf1, attn := swept.attn }) empties)
  have record (x : Sector) : swept.sectors[x] = { s.sectors[x] with live := 0, stale := s.sectors[x].stale + s.sectors[x].live } := by
    rw [show swept.sectors = cleared.sectors from (congrArg State.sectors frame :)]
    exact records x
  have next : swept.nextToFormat r.formatNext = some y := by
    refine State.nextToFormat_of_first (Nat.zero_le _) ?_ fun z _ earlier => ?_
    · rw [record]
      exact here
    · rw [record]
      exact before z earlier
  have run : swept.running = some r := (congrArg State.running frame :)
  have engine : swept.engine = .running := (congrArg State.engine frame :)
  have store : swept.store = .formatting := (congrArg State.store frame :)
  have ops : swept.ops = s.ops := (congrArg State.ops frame :)
  have context : cleared.context = s.context := (congrArg State.context empties :)
  have goes : s.jobStart = { swept with running := some { r with formatNext := y.val + 1 }, ops := s.ops ++ [.erase y .format] } := by
    rw [start, ← ops]
    refine (?_ : swept.formatNextSector r = swept.formatOn).trans (State.formatOn_of_next run next ((congrArg State.supply frame :).trans normal))
    rw [State.formatOn, run]
  refine ⟨_, exec_jobStart released, ?_⟩
  rw [goes, State.settle_of_engaged (by rw [engine]; nofun) fun cause readOnly => by rw [store] at readOnly; cases readOnly]
  refine ⟨store, (congrArg State.epoch frame :), (congrArg State.directory frame :), (congrArg State.marks frame :), fun i => ?zones,
    (congrArg State.pass frame :), (congrArg State.queue frame :), engine, rfl, rfl, (congrArg State.array frame :),
    (congrArg State.generationNext frame :), (congrArg State.openSequenceNext frame :), record, fun h => ?contexts, ?holds, ?pool, fun l => ?links⟩
  case zones =>
    rw [show swept.zones = Vector.replicate 8 none from (congrArg State.zones frame :)]
    simp
  case contexts =>
    refine (sweeps.contexts h).trans ?_
    rw [if_pos (mem_allHandles h), context]
    rfl
  case holds =>
    refine sweeps.holds.trans ?_
    rw [show cleared.holds = s.holds from (congrArg State.holds empties :), context]
    refine List.filter_congr fun p _ => ?_
    unfold keptHold
    cases p.2 with
    | context h => simp [mem_allHandles]
    | job ticket => rfl
  case pool =>
    refine sweeps.pool.trans ?_
    rw [show cleared.poolFree = s.poolFree from (congrArg State.poolFree empties :), context]
    rfl
  case links =>
    refine (sweeps.links l).trans ?_
    rw [announced, context]
    refine congrArg (List.foldl _ _) (List.filter_congr fun h _ => ?_)
    cases s.context h with
    | opened owner timeout idle staged => rfl
    | _ => rfl

end Sys2Proof.Machine
end

section
/-! PROOFS. The starts and resumptions of a pass (R78, R94 to R98). -/

namespace Sys2Proof.Machine

/-! ### The element that a strict weak order prefers -/

section
variable {α : Type} {better : α → α → Bool} {R : α → α → Prop}

/-- An element is preferred over another, or ties with it and comes first. -/
def preferred (better : α → α → Bool) (R : α → α → Prop) (m b : α) : Prop := better m b = true ∨ (better b m = false ∧ R m b)

theorem preferred_trans (asymm : ∀ a b, better a b = true → better b a = false)
    (weak : ∀ a b c, better a c = true → better a b = true ∨ better b c = true) (trans : ∀ a b c, R a b → R b c → R a c)
    {m a d : α} (first : preferred better R m a) (second : preferred better R a d) : preferred better R m d := by
  rcases first with beats | ⟨ties, before⟩
  · refine .inl ((weak m d a beats).resolve_right fun loses => ?_)
    rcases second with wins | ⟨ties, -⟩
    · rw [asymm a d wins] at loses
      cases loses
    · rw [ties] at loses
      cases loses
  · rcases second with wins | ⟨ties', before'⟩
    · exact .inl ((weak a m d wins).resolve_left (by rw [ties]; nofun))
    · refine .inr ⟨Bool.eq_false_iff.mpr fun wins => ?_, trans m a d before before'⟩
      rcases weak d a m wins with h | h
      · rw [ties'] at h
        cases h
      · rw [ties] at h
        cases h

theorem foldl_keepBest_preferred (asymm : ∀ a b, better a b = true → better b a = false)
    (weak : ∀ a b c, better a c = true → better a b = true ∨ better b c = true) (trans : ∀ a b c, R a b → R b c → R a c) :
    ∀ (rest : List α) (a : α), (a :: rest).Pairwise R → ∀ b ∈ a :: rest,
      b = rest.foldl (keepBest better) a ∨ preferred better R (rest.foldl (keepBest better) a) b
  | [], a, _, b, mem => .inl (List.mem_singleton.mp mem)
  | c :: rest, a, sorted, b, mem => by
    obtain ⟨head, behind⟩ := List.pairwise_cons.mp sorted
    obtain ⟨best, dropped, is, sorted', follows, split⟩ : ∃ best dropped, keepBest better a c = best ∧ (best :: rest).Pairwise R ∧
        preferred better R best dropped ∧ ∀ b ∈ a :: c :: rest, b = dropped ∨ b ∈ best :: rest := by
      by_cases wins : better c a = true
      · refine ⟨c, a, if_pos wins, behind, .inl wins, fun b mem => ?_⟩
        exact List.mem_cons.mp mem
      · refine ⟨a, c, if_neg wins, ?_, .inr ⟨Bool.eq_false_iff.mpr wins, head c List.mem_cons_self⟩, fun b mem => ?_⟩
        · exact List.pairwise_cons.mpr ⟨fun d h => head d (List.mem_cons_of_mem c h), (List.pairwise_cons.mp behind).2⟩
        · simp only [List.mem_cons] at mem ⊢
          rcases mem with here | next | later
          · exact .inr (.inl here)
          · exact .inl next
          · exact .inr (.inr later)
    have ih := foldl_keepBest_preferred asymm weak trans rest best sorted'
    rw [List.foldl_cons, is]
    rcases split b mem with rfl | later
    · right
      rcases ih best List.mem_cons_self with same | further
      · rw [← same]
        exact follows
      · exact preferred_trans asymm weak trans further follows
    · exact ih b later

/-- Of a list with an element the choice finds one that is preferred over every other. -/
theorem selectBy_preferred (asymm : ∀ a b, better a b = true → better b a = false)
    (weak : ∀ a b c, better a c = true → better a b = true ∨ better b c = true) (trans : ∀ a b c, R a b → R b c → R a c)
    {xs : List α} (sorted : xs.Pairwise R) (some' : xs ≠ []) :
    ∃ m, selectBy better xs = some m ∧ m ∈ xs ∧ ∀ b ∈ xs, b ≠ m → preferred better R m b := by
  cases xs with
  | nil => exact absurd rfl some'
  | cons a rest =>
    exact ⟨_, selectBy_cons .., foldl_keepBest_mem better a rest, fun b mem other =>
      (foldl_keepBest_preferred asymm weak trans rest a sorted b mem).resolve_left other⟩

end

/-! ### The stale and the wear choice (R94, R95) -/

section
variable {s : State}

theorem State.mem_eligible (x : Sector) : x ∈ s.eligible ↔ (∃ q, s.sectors[x].state = .full q) ∧ s.sectors[x].pending = 0 := by
  rw [State.eligible, List.mem_filter, and_iff_right (mem_allSectors x), Bool.and_eq_true, decide_eq_true_iff]
  refine and_congr_left fun _ => ?_
  cases s.sectors[x].state <;> simp [SectorState.isFull]

theorem State.staler_iff (b best : Sector) : s.staler b best = true ↔ s.sectors[best].stale < s.sectors[b].stale ∨
    (s.sectors[best].stale = s.sectors[b].stale ∧ s.sectors[b].eraseCount.toNat < s.sectors[best].eraseCount.toNat) := by
  rw [State.staler, Bool.or_eq_true, Bool.and_eq_true, decide_eq_true_iff, decide_eq_true_iff, decide_eq_true_iff]

theorem State.lessWorn_iff (b best : Sector) : s.lessWorn b best = true ↔ s.sectors[b].eraseCount.toNat < s.sectors[best].eraseCount.toNat ∨
    (s.sectors[best].eraseCount.toNat = s.sectors[b].eraseCount.toNat ∧ s.sectors[best].stale < s.sectors[b].stale) := by
  rw [State.lessWorn, Bool.or_eq_true, Bool.and_eq_true, decide_eq_true_iff, decide_eq_true_iff, decide_eq_true_iff, BitVec.toNat_inj]

/-- The sector with the most stale lines, then the lower erase count, then the lower index. -/
def State.stalest (s : State) (xs : Sector → Prop) (v : Sector) : Prop :=
  xs v ∧ ∀ y, xs y → y ≠ v → s.sectors[y].stale < s.sectors[v].stale ∨
    (s.sectors[y].stale = s.sectors[v].stale ∧ (s.sectors[v].eraseCount.toNat < s.sectors[y].eraseCount.toNat ∨
      (s.sectors[y].eraseCount = s.sectors[v].eraseCount ∧ v < y)))

/-- The stale choice finds the stalest of the eligible sectors with enough stale lines (R94). -/
theorem State.staleChoice_some {least : Nat} (one : ∃ x ∈ s.eligible, least ≤ s.sectors[x].stale) :
    ∃ v, s.staleChoice least = some v ∧ s.stalest (fun x => x ∈ s.eligible ∧ least ≤ s.sectors[x].stale) v := by
  have mem (x : Sector) : x ∈ s.eligible.filter (fun x => decide (least ≤ s.sectors[x].stale)) ↔ x ∈ s.eligible ∧ least ≤ s.sectors[x].stale := by
    rw [List.mem_filter, decide_eq_true_iff]
  obtain ⟨x, eligible, enough⟩ := one
  obtain ⟨v, chosen, inside, best⟩ := selectBy_preferred (better := s.staler) (R := (· < ·))
    (fun a b h => by
      rw [State.staler_iff] at h
      rw [Bool.eq_false_iff, ne_eq, State.staler_iff]
      omega)
    (fun a b c h => by
      rw [State.staler_iff] at h ⊢
      rw [State.staler_iff]
      omega)
    (fun a b c => Nat.lt_trans) ((filter_allSectors_sorted _).filter _) (List.ne_nil_of_mem ((mem x).mpr ⟨eligible, enough⟩))
  refine ⟨v, chosen, (mem v).mp inside, fun y here other => ?_⟩
  rcases best y ((mem y).mpr here) other with beats | ⟨ties, before⟩
  · rw [State.staler_iff] at beats
    omega
  · rw [Bool.eq_false_iff, ne_eq, State.staler_iff] at ties
    rw [← BitVec.toNat_inj, Fin.lt_def]
    rw [Fin.lt_def] at before
    omega

theorem State.staleChoice_none {least : Nat} (few : ∀ x ∈ s.eligible, s.sectors[x].stale < least) : s.staleChoice least = none := by
  have empty : s.eligible.filter (fun x => decide (least ≤ s.sectors[x].stale)) = [] :=
    List.filter_eq_nil_iff.mpr fun x mem => by
      have := few x mem
      simpa using this
  rw [State.staleChoice, empty]
  rfl

/-- The stalest sector is the only one. -/
theorem State.stalest_unique {xs : Sector → Prop} {v w : Sector} (first : s.stalest xs v) (second : s.stalest xs w) : v = w := by
  refine Classical.byContradiction fun other => ?_
  have one := first.2 w second.1 (Ne.symm other)
  have two := second.2 v first.1 other
  rw [← BitVec.toNat_inj, Fin.lt_def] at one two
  omega

/-- The wear choice finds the eligible sector with the lowest erase count, then the most stale lines, then the lower index (R95). -/
theorem State.wearChoice_some (one : ∃ x, x ∈ s.eligible) :
    ∃ v, s.wearChoice = some v ∧ v ∈ s.eligible ∧ ∀ y ∈ s.eligible, y ≠ v → s.sectors[v].eraseCount.toNat < s.sectors[y].eraseCount.toNat ∨
      (s.sectors[v].eraseCount.toNat = s.sectors[y].eraseCount.toNat ∧
        (s.sectors[y].stale < s.sectors[v].stale ∨ (s.sectors[y].stale = s.sectors[v].stale ∧ v < y))) := by
  obtain ⟨x, eligible⟩ := one
  obtain ⟨v, chosen, inside, best⟩ := selectBy_preferred (better := s.lessWorn) (R := (· < ·))
    (fun a b h => by
      rw [State.lessWorn_iff] at h
      rw [Bool.eq_false_iff, ne_eq, State.lessWorn_iff]
      omega)
    (fun a b c h => by
      rw [State.lessWorn_iff] at h ⊢
      rw [State.lessWorn_iff]
      omega)
    (fun a b c => Nat.lt_trans) (filter_allSectors_sorted _) (List.ne_nil_of_mem eligible)
  refine ⟨v, chosen, inside, fun y here other => ?_⟩
  rcases best y here other with beats | ⟨ties, before⟩
  · rw [State.lessWorn_iff] at beats
    omega
  · rw [Bool.eq_false_iff, ne_eq, State.lessWorn_iff] at ties
    rw [Fin.lt_def] at before ⊢
    omega

end

/-! ### RECLAIM_REQ and PASS_RESUME -/

section
variable {s : State}

/-- An event in READY with NORMAL supply rests in the state it comes to. -/
theorem State.settle_of_ready {t : State} (normal : t.supply = .normal) (ready : t.store = .ready) : t.settle = t :=
  State.settle_of_normal normal fun cause readOnly => by rw [ready] at readOnly; cases readOnly

theorem State.urgentStart_of_choice {v : Sector} (none' : s.pass = none) (chosen : s.staleChoice 1 = some v) :
    s.urgentStart = s.startPass v .urgent := by
  rw [State.urgentStart, none']
  dsimp only
  rw [chosen]

theorem State.urgentStart_of_pass {p : Pass} (pass : s.pass = some p) : s.urgentStart = s.resumePass p .urgent := by
  rw [State.urgentStart, pass]

theorem State.resumePass_of_marking {p : Pass} (phase : p.phase = .marking) (mode : PassMode) :
    s.resumePass p mode
      = ({ s with pass := some { p with mode := mode, running := true }, engine := .reclaiming mode } : State).markVictim p.victim := by
  simp only [State.resumePass, phase]

theorem State.resumePass_of_erasing {p : Pass} (phase : p.phase = .erasing) (mode : PassMode) :
    s.resumePass p mode = { s with
      pass := some { p with phase := .erasing, mode := mode, running := true }
      engine := .reclaiming mode
      ops := s.ops ++ [.erase p.victim .reclaim] } := by
  simp only [State.resumePass, phase, State.passOn]
  rfl

theorem State.resumePass_of_copying {p : Pass} {c : Nat} (phase : p.phase = .copying c) (mode : PassMode) :
    s.resumePass p mode
      = ({ s with pass := some { p with mode := mode, running := true }, engine := .reclaiming mode } : State).walkImage p.victim c := by
  simp only [State.resumePass, phase, State.passOn]

/-- At line 256 the walk ends (R99). -/
theorem State.walkImage_of_end {p : Pass} {victim : Sector} {c : Nat} (pass : s.pass = some p) (past : 256 ≤ c) :
    s.walkImage victim c = { s with pass := some { p with phase := .erasing } } := by
  rw [State.walkImage, if_pos past, State.setPhase, pass]
  rfl

theorem State.resumePass_of_end {p : Pass} {c : Nat} (phase : p.phase = .copying c) (past : 256 ≤ c) (mode : PassMode) :
    s.resumePass p mode = { s with
      pass := some { p with phase := .erasing, mode := mode, running := true }, engine := .reclaiming mode } := by
  rw [State.resumePass_of_copying phase]
  exact State.walkImage_of_end (p := { p with mode := mode, running := true })
    (s := { s with pass := some { p with mode := mode, running := true }, engine := .reclaiming mode }) rfl past

end

/-- Settles O39: by whether there is a pass or a choice, and the phase of the pass. -/
theorem reclaimRequestStarts : Obligations.ReclaimRequestStarts := by
  intro s j rest released idle normal ready free queue work lines slots eligible passing mark
  have inside (x : Sector) : x ∈ s.eligible ↔ eligible x := State.mem_eligible x
  let t : State := s.handed rest (j.taken 0) s.generationNext
  have starts : s.jobStart = t.reclaimReqStart (j.taken 0) := by
    rw [State.jobStart_of_idle idle normal queue, s.startJob_of_reclaimReq work]
  have rests {u : State} (goes : t.reclaimReqStart (j.taken 0) = u) (normal : u.supply = .normal) (ready : u.store = .ready) :
      exec .jobStart s = .next u := by
    rw [exec_jobStart released, starts, goes, State.settle_of_ready normal ready]
  refine ⟨fun none' clean => ?nothing, fun v none' chosen enough best => ?starts, fun p pass => ?resumes⟩
  case nothing =>
    have choice : t.staleChoice 1 = none := State.staleChoice_none (s := t) fun x mem => by
      have : s.sectors[x].stale = 0 := clean x ((inside x).mp mem)
      change s.sectors[x].stale < 1
      omega
    refine rests ?_ ?_ ?_
    · rw [State.reclaimReqStart, choice, if_neg (by rw [show t.pass = none from none']; nofun),
        State.endRunning_of_bare (.inr work) rfl]
      change ({ t with
        reservedLines := s.reservedLines - j.lines, slotReservations := s.slotReservations - j.slots
        running := none, engine := .idle } : State).offer j.origin (.jobDone j.ticket j.work.kind .ok 0) = _
      rw [lines, slots, work, ← free, ← idle]
      rfl
    · cases j.origin <;> exact normal
    · cases j.origin <;> exact ready
  case starts =>
    obtain ⟨w, choice, stalest⟩ := State.staleChoice_some (s := t) (least := 1) ⟨v, (inside v).mpr chosen, enough⟩
    obtain rfl : w = v := State.stalest_unique (s := t) stalest
      ⟨⟨(inside v).mpr chosen, enough⟩, fun y here other => best y ((inside y).mp here.1) other⟩
    refine rests ?_ normal ready
    rw [State.reclaimReqStart, choice, if_pos (by simp), State.urgentStart_of_choice (s := t) none' choice]
    rfl
  case resumes =>
    have resumes : t.reclaimReqStart (j.taken 0) = t.resumePass p .urgent := by
      rw [State.reclaimReqStart, if_pos (by rw [show t.pass = some p from pass]; rfl), State.urgentStart_of_pass (s := t) pass]
    refine ⟨fun phase => ?_, fun phase => ?_, fun phase => ?_⟩
    · exact rests (resumes.trans ((State.resumePass_of_marking phase .urgent).trans rfl)) normal ready
    · exact rests (resumes.trans ((State.resumePass_of_erasing phase .urgent).trans (by rw [← phase]; rfl))) normal ready
    · exact rests (resumes.trans ((State.resumePass_of_end phase (Nat.le_refl _) .urgent).trans rfl)) normal ready

/-! ### The background trigger (R95, R96) -/

section
variable {s : State}

theorem State.mem_wearCounts (n : Nat) : n ∈ s.wearCounts ↔ ∃ x : Sector, s.sectors[x].nonRetired = true ∧ s.sectors[x].eraseCount.toNat = n := by
  rw [State.wearCounts, List.mem_map]
  constructor
  · rintro ⟨r, mem, rfl⟩
    obtain ⟨mem, used⟩ := List.mem_filter.mp mem
    obtain ⟨i, below, rfl⟩ := List.getElem_of_mem mem
    exact ⟨⟨i, by simpa using below⟩, by simpa using used, by simp⟩
  · rintro ⟨x, used, rfl⟩
    exact ⟨s.sectors[x], List.mem_filter.mpr ⟨by simp, used⟩, rfl⟩

/-- The lowest erase count of the sectors in use. -/
theorem State.lowestWear_some (some' : s.wearCounts ≠ []) : ∃ low, s.lowestWear = some low ∧ low ∈ s.wearCounts ∧ ∀ n ∈ s.wearCounts, low ≤ n := by
  obtain ⟨low, chosen, mem, best⟩ := selectBy_preferred (better := fun b best : Nat => decide (b < best)) (R := fun _ _ => True)
    (fun a b h => by simp only [decide_eq_true_iff, decide_eq_false_iff_not] at h ⊢; omega)
    (fun a b c h => by simp only [decide_eq_true_iff] at h ⊢; omega) (fun _ _ _ _ _ => trivial)
    (List.pairwise_of_forall fun _ _ => trivial) some'
  refine ⟨low, chosen, mem, fun n here => ?_⟩
  by_cases same : n = low
  · omega
  · rcases best n here same with less | ⟨ties, -⟩
    · exact Nat.le_of_lt (of_decide_eq_true less)
    · exact Nat.le_of_not_lt (of_decide_eq_false ties)

/-- The highest erase count of the sectors in use. -/
theorem State.highestWear_some (some' : s.wearCounts ≠ []) :
    ∃ high, selectBy (fun b best => decide (best < b)) s.wearCounts = some high ∧ high ∈ s.wearCounts ∧ ∀ n ∈ s.wearCounts, n ≤ high := by
  obtain ⟨high, chosen, mem, best⟩ := selectBy_preferred (better := fun b best : Nat => decide (best < b)) (R := fun _ _ => True)
    (fun a b h => by simp only [decide_eq_true_iff, decide_eq_false_iff_not] at h ⊢; omega)
    (fun a b c h => by simp only [decide_eq_true_iff] at h ⊢; omega) (fun _ _ _ _ _ => trivial)
    (List.pairwise_of_forall fun _ _ => trivial) some'
  refine ⟨high, chosen, mem, fun n here => ?_⟩
  by_cases same : n = high
  · omega
  · rcases best n here same with less | ⟨ties, -⟩
    · exact Nat.le_of_lt (of_decide_eq_true less)
    · exact Nat.le_of_not_lt (of_decide_eq_false ties)

/-- Two sectors in use are at least 256 erases apart. -/
def State.worn (s : State) : Prop :=
  ∃ x y : Sector, s.sectors[x].nonRetired = true ∧ s.sectors[y].nonRetired = true ∧
    s.sectors[x].eraseCount.toNat + 256 ≤ s.sectors[y].eraseCount.toNat

/-- The erase-count spread is 256 or more where two sectors in use are so far apart (R95). -/
theorem State.wearSpread_iff : Config.wearSpread ≤ s.wearSpread ↔ s.worn := by
  by_cases empty : s.wearCounts = []
  · have spread : s.wearSpread = 0 := by rw [State.wearSpread, State.lowestWear, empty]; rfl
    rw [spread]
    refine iff_of_false (by decide) ?_
    rintro ⟨x, -, used, -⟩
    have mem : s.sectors[x].eraseCount.toNat ∈ s.wearCounts := (State.mem_wearCounts _).mpr ⟨x, used, rfl⟩
    rw [empty] at mem
    cases mem
  · obtain ⟨low, lowest, low_mem, low_le⟩ := State.lowestWear_some empty
    obtain ⟨high, highest, high_mem, le_high⟩ := State.highestWear_some empty
    rw [State.wearSpread, lowest, highest]
    change 256 ≤ high - low ↔ _
    constructor
    · intro apart
      obtain ⟨x, used, here⟩ := (State.mem_wearCounts _).mp low_mem
      obtain ⟨y, used', here'⟩ := (State.mem_wearCounts _).mp high_mem
      exact ⟨x, y, used, used', by omega⟩
    · rintro ⟨x, y, used, used', apart⟩
      have := low_le _ ((State.mem_wearCounts _).mpr ⟨x, used, rfl⟩)
      have := le_high _ ((State.mem_wearCounts _).mpr ⟨y, used', rfl⟩)
      omega

/-- The lowest erase count is that of a sector than which none in use has a lower one. -/
theorem State.lowestWear_of_least {x : Sector} (used : s.sectors[x].nonRetired = true)
    (least : ∀ y : Sector, s.sectors[y].nonRetired = true → s.sectors[x].eraseCount.toNat ≤ s.sectors[y].eraseCount.toNat) :
    s.lowestWear = some s.sectors[x].eraseCount.toNat := by
  have mem : s.sectors[x].eraseCount.toNat ∈ s.wearCounts := (State.mem_wearCounts _).mpr ⟨x, used, rfl⟩
  obtain ⟨low, lowest, low_mem, low_le⟩ := State.lowestWear_some (List.ne_nil_of_mem mem)
  obtain ⟨y, used', rfl⟩ := (State.mem_wearCounts _).mp low_mem
  rw [lowest]
  exact congrArg some (Nat.le_antisymm (low_le _ mem) (least y used'))

theorem State.nonRetired_of_full {x : Sector} {q : Word32} (full : s.sectors[x].state = .full q) : s.sectors[x].nonRetired = true := by
  rw [SectorRecord.nonRetired, full]

/-- A background pass starts on its victim where it is allowed and triggered (R96). -/
theorem exec_backgroundPassStart_of_victim {v : Sector} (released : s.held = false) (allowed : s.backgroundAllowed = true)
    (normal : s.supply = .normal) (ready : s.store = .ready) (none' : s.pass = none) (triggered : (s.spaceTrigger || s.wearTrigger) = true)
    (victim : s.backgroundVictim = some v) : exec .backgroundPassStart s = .next
      { s with
        pass := some ⟨.marking, v, .background, true, none⟩
        engine := .reclaiming .background
        ops := s.ops ++ [.header v .victimMark victimPattern (s.array.headers[v] &&& victimPattern)] } := by
  have trigger : s.backgroundTrigger = true := by
    rw [State.backgroundTrigger, allowed, none', triggered]
    rfl
  have starts : s.backgroundPassStart = s.startPass v .background := by
    rw [State.backgroundPassStart, if_pos trigger, victim]
  rw [exec_backgroundPassStart released, starts]
  exact congrArg Host.Outcome.next (State.settle_of_ready normal ready)

end

/-- Settles O40: the wear choice is taken where the spread is 256 or more, the stale choice below it. -/
theorem backgroundPassTakesItsVictim : Obligations.BackgroundPassTakesItsVictim := by
  intro s released idle normal ready queue none' count stale used eligible worn taken condition
  have inside (x : Sector) : x ∈ s.eligible ↔ eligible x := State.mem_eligible x
  have worn_iff : Config.wearSpread ≤ s.wearSpread ↔ worn := State.wearSpread_iff
  have allowed : s.backgroundAllowed = true := by simp [State.backgroundAllowed, idle, normal, ready, queue]
  have one : ∃ x, x ∈ s.eligible := by
    rcases condition with ⟨-, x, here, -⟩ | ⟨-, x, here, -⟩ <;> exact ⟨x, (inside x).mpr here⟩
  have triggered : (s.spaceTrigger || s.wearTrigger) = true := by
    rw [Bool.or_eq_true]
    rcases condition with ⟨few, x, here, many⟩ | ⟨spread, x, here, least⟩
    · refine .inl ?_
      rw [State.spaceTrigger, decide_eq_true few, Bool.true_and]
      exact List.any_eq_true.mpr ⟨x, (inside x).mpr here, decide_eq_true many⟩
    · refine .inr ?_
      obtain ⟨q, full⟩ := here.1
      rw [State.wearTrigger, decide_eq_true (worn_iff.mpr spread), Bool.true_and, State.lowestWear_of_least (State.nonRetired_of_full full) least]
      exact List.any_eq_true.mpr ⟨x, (inside x).mpr here, by simp⟩
  have takes {v : Sector} (victim : s.backgroundVictim = some v) : taken v :=
    exec_backgroundPassStart_of_victim released allowed normal ready none' triggered victim
  constructor
  · intro even
    obtain ⟨x, mem⟩ := one
    obtain ⟨v, choice, ⟨chosen, -⟩, best⟩ := State.staleChoice_some (least := 0) ⟨x, mem, Nat.zero_le _⟩
    refine ⟨v, (inside v).mp chosen, takes ?_, fun y here other => ?_⟩
    · rw [State.backgroundVictim, if_neg (mt worn_iff.mp even), choice]
    · rw [show count y = count v ↔ s.sectors[y].eraseCount = s.sectors[v].eraseCount from BitVec.toNat_inj]
      exact best y ⟨(inside y).mpr here, Nat.zero_le _⟩ other
  · intro spread
    obtain ⟨v, choice, chosen, best⟩ := State.wearChoice_some one
    refine ⟨v, (inside v).mp chosen, takes ?_, fun y here other => best y ((inside y).mpr here) other⟩
    rw [State.backgroundVictim, if_pos (worn_iff.mpr spread), choice]

end Sys2Proof.Machine
end

section
/-! PROOFS. The walk of a pass, image by image, and its pause points (R99 to R103, R106, R107, R147). -/

namespace Sys2Proof.Machine

/-! ### What the walk does with an image (R100 to R102) -/

section
variable {s : State} {h : ImageHeader} {here : Loc}

/-- The directory or the mark table points at the image at a location. -/
def State.pointsAt (s : State) (h : ImageHeader) (here : Loc) : Prop :=
  match h.kind with
  | .mark => ∃ m ∈ s.marks, m.loc = here
  | _ => ∃ e, s.lookup h.key = some e ∧ e.loc = here

theorem State.marks_any_iff (s : State) (here : Loc) : s.marks.any (fun m => decide (m.loc = here)) = true ↔ ∃ m ∈ s.marks, m.loc = here := by
  simp [List.any_eq_true]

theorem State.lookup_any_iff (s : State) (k : Key) (here : Loc) :
    (s.lookup k).any (fun e => decide (e.loc = here)) = true ↔ ∃ e, s.lookup k = some e ∧ e.loc = here := by
  simp [Option.any_eq_true]

/-- An image that nothing points at is skipped. -/
theorem State.walkStep_of_not_pointsAt (lost : ¬ s.pointsAt h here) : s.walkStep h here = .skip := by
  rw [State.pointsAt] at lost
  rw [State.walkStep]
  cases kind : h.kind with
  | mark =>
    rw [kind] at lost
    exact if_neg (mt (s.marks_any_iff here).mp lost)
  | value =>
    rw [kind] at lost
    exact if_neg (mt (s.lookup_any_iff h.key here).mp lost)
  | tombstone =>
    rw [kind] at lost
    exact if_neg (mt (s.lookup_any_iff h.key here).mp lost)

/-- A held key's entry is not dropped (R12). -/
theorem State.drop_of_held {k : Key} (held : s.holder k ≠ none) (loc : Loc) : s.drop k loc = none := by
  rw [State.drop]
  cases s.lookup k with
  | none => rfl
  | some e => exact if_neg fun all => held all.2.2

/-- An image that is pointed at is copied, unless it is a tombstone to drop. -/
theorem State.walkStep_of_pointsAt (pointed : s.pointsAt h here)
    (stays : h.kind = .tombstone → h.tagging = .solo → s.isOldest here.sector = true → s.holder h.key ≠ none) :
    s.walkStep h here = .copy (s.copyOf h here) := by
  rw [State.pointsAt] at pointed
  rw [State.walkStep]
  cases kind : h.kind with
  | mark =>
    rw [kind] at pointed
    exact if_pos ((s.marks_any_iff here).mpr pointed)
  | value =>
    rw [kind] at pointed
    exact if_pos ((s.lookup_any_iff h.key here).mpr pointed)
  | tombstone =>
    rw [kind] at pointed
    dsimp only
    rw [if_pos ((s.lookup_any_iff h.key here).mpr pointed)]
    by_cases goes : h.tagging = .solo ∧ s.isOldest here.sector = true
    · rw [if_pos goes, State.drop_of_held (stays kind goes.1 goes.2)]
    · rw [if_neg goes]

/-- A SOLO tombstone of the oldest sector is dropped where its entry is DELETED and SOLO and nobody holds its key. -/
theorem State.walkStep_of_dropped {e : DirEntry} (kind : h.kind = .tombstone) (solo : h.tagging = .solo)
    (oldest : s.isOldest here.sector = true) (found : s.lookup h.key = some e) (loc : e.loc = here) (deleted : e.state = .deleted)
    (entrySolo : e.tagging = .solo) (free : s.holder h.key = none) :
    s.walkStep h here
      = .drop (({ s with directory := s.directory.filter (fun d => !(d.key == h.key)) } : State).liveToStale here.sector 1) := by
  have drops : s.drop h.key here
      = some (({ s with directory := s.directory.filter (fun d => !(d.key == h.key)) } : State).liveToStale here.sector 1) := by
    rw [State.drop, found]
    dsimp only
    rw [if_pos ⟨deleted, loc, free⟩, State.released_of_solo _ entrySolo]
  rw [State.walkStep, kind]
  dsimp only
  rw [if_pos ((s.lookup_any_iff h.key here).mpr ⟨e, found, loc⟩), if_pos ⟨solo, oldest⟩, drops]

end

/-! ### One image of the walk (R99) -/

section
variable {s : State} {p : Pass} {c : Nat} {h : ImageHeader} {victim : Sector}

theorem State.walkImage_of_invalid (pass : s.pass = some p) (within : c ≤ 255)
    (invalid : ∀ h, readImageHeader (s.array.readLine ⟨victim, c⟩) c ≠ .image h) :
    s.walkImage victim c = { s with pass := some { p with phase := .erasing } } := by
  have ends : s.walkImage victim c = s.setPhase .erasing := by
    rw [State.walkImage, if_neg (by omega)]
    cases read : readImageHeader (s.array.readLine ⟨victim, c⟩) c with
    | image h => exact absurd read (invalid h)
    | _ => rfl
  rw [ends, State.setPhase, pass]
  rfl

/-- The walk takes a step for the image at its cursor (R99). -/
def State.takeStep (s : State) (here : Loc) (lines : Nat) : WalkStep → State
  | .skip => s.setPhase (.copying (here.line + lines))
  | .drop t => t.setPhase (.copying (here.line + lines))
  | .copy i => (s.setPhase (.copying here.line)).startCopy i here

theorem State.walkImage_of_image (within : c ≤ 255) (read : readImageHeader (s.array.readLine ⟨victim, c⟩) c = .image h) :
    s.walkImage victim c = s.takeStep ⟨victim, c⟩ h.lines (s.walkStep h ⟨victim, c⟩) := by
  rw [State.walkImage, if_neg (by omega), read]
  dsimp only
  cases s.walkStep h ⟨victim, c⟩ <;> rfl

theorem State.walkImage_of_skip (pass : s.pass = some p) (within : c ≤ 255)
    (read : readImageHeader (s.array.readLine ⟨victim, c⟩) c = .image h) (lost : ¬ s.pointsAt h ⟨victim, c⟩) :
    s.walkImage victim c = { s with pass := some { p with phase := .copying (c + h.lines) } } := by
  rw [State.walkImage_of_image within read, State.walkStep_of_not_pointsAt lost, State.takeStep, State.setPhase, pass]
  rfl

/-- The lines of a copy are those of its source. -/
theorem State.copyOf_lines (s : State) (h : ImageHeader) (source : Loc) : (s.copyOf h source).lines = h.lines := by
  rw [Image.lines, ImageHeader.lines, State.copyOf]
  cases h.kind with
  | value => simp [CellArray.readValue]
  | _ => rfl

/-- The image that a copy writes, with its value named. -/
theorem State.copyOf_eq (s : State) (h : ImageHeader) (source : Loc) :
    s.copyOf h source = ⟨h.kind, .solo, h.key, h.generation, if h.kind = .value then s.array.readValue source h.length else []⟩ := by
  rw [State.copyOf]
  cases h.kind <;> rfl

/-- The copy of an image starts where it has room in the OPEN sector (R103). -/
theorem State.walkImage_of_copy {x : Sector} {q : Word32} {w : Nat} (pass : s.pass = some p) (within : c ≤ 255)
    (read : readImageHeader (s.array.readLine ⟨victim, c⟩) c = .image h) (pointed : s.pointsAt h ⟨victim, c⟩)
    (stays : h.kind = .tombstone → h.tagging = .solo → s.isOldest victim = true → s.holder h.key ≠ none)
    (opened : s.openSector = some (x, q, w)) (fits : h.lines ≤ 256 - w) :
    s.walkImage victim c = { s with
      pass := some { p with phase := .copying c, copy := some ⟨s.copyOf h ⟨victim, c⟩, some ⟨victim, c⟩, 0⟩ }
      sectors := s.sectors.set x { s.sectors[x] with state := .opened q (w + h.lines), pending := s.sectors[x].pending + h.lines }
      ops := s.ops ++ [.image .reclaim ⟨x, w⟩ 0 (s.copyOf h ⟨victim, c⟩).headerLine
        (s.array.readLine ⟨x, w⟩ &&& (s.copyOf h ⟨victim, c⟩).headerLine)] } := by
  rw [State.walkImage_of_image within read, State.walkStep_of_pointsAt pointed stays, State.takeStep]
  have sizes := s.copyOf_lines h ⟨victim, c⟩
  generalize s.copyOf h ⟨victim, c⟩ = i at sizes ⊢
  let t : State := { s with pass := some { p with phase := .copying c, copy := some ⟨i, some ⟨victim, c⟩, 0⟩ } }
  have starts : (s.setPhase (.copying c)).startCopy i ⟨victim, c⟩ = t.makeRoom .reclaim := by
    rw [State.startCopy, State.setPhase, State.setWriting, pass]
    rfl
  rw [starts, State.makeRoom_of_fits (s := t) (x := ⟨i, some ⟨victim, c⟩, 0⟩) rfl ((State.openSector_congr fun _ => rfl).trans opened)
    (by rw [sizes]; exact fits)]
  have state : t.sectors[x].state = .opened q w := State.state_of_openSector opened
  rw [State.startImage_of_opened state, sizes]

theorem State.walkImage_of_drop {e : DirEntry} (pass : s.pass = some p) (within : c ≤ 255)
    (read : readImageHeader (s.array.readLine ⟨victim, c⟩) c = .image h) (kind : h.kind = .tombstone) (solo : h.tagging = .solo)
    (oldest : s.isOldest victim = true) (found : s.lookup h.key = some e) (loc : e.loc = ⟨victim, c⟩) (deleted : e.state = .deleted)
    (entrySolo : e.tagging = .solo) (free : s.holder h.key = none) :
    s.walkImage victim c = { s with
      pass := some { p with phase := .copying (c + 1) }
      directory := s.directory.filter (fun d => decide (d.key ≠ h.key))
      sectors := s.sectors.set victim { s.sectors[victim] with
        live := s.sectors[victim].live - 1, stale := s.sectors[victim].stale + 1 } } := by
  have one : h.lines = 1 := by rw [ImageHeader.lines, kind]; rfl
  have keys : (fun d : DirEntry => decide (d.key ≠ h.key)) = fun d => !(d.key == h.key) := funext fun d => by
    by_cases same : d.key = h.key <;> simp [same]
  rw [State.walkImage_of_image within read,
    State.walkStep_of_dropped (here := ⟨victim, c⟩) kind solo oldest found loc deleted entrySolo free, one, keys]
  exact congrArg (fun o : Option Pass => ({ s with
      pass := o.map fun p => { p with phase := .copying (c + 1) }
      directory := s.directory.filter (fun d => !(d.key == h.key))
      sectors := s.sectors.set victim { s.sectors[victim] with
        live := s.sectors[victim].live - 1, stale := s.sectors[victim].stale + 1 } } : State)) pass

end

end Sys2Proof.Machine
end

section
/-! PROOFS. A pass goes on from where it stopped, and comes to its pause points (R99, R106, R147; log entry 28). -/

namespace Sys2Proof.Machine

/-! ### What stops a pass asks for no operation -/

section
variable {s : State}

theorem State.offer_ops (s : State) (l : Link) (n : Notice) : (s.offer l n).ops = s.ops := (congrArg State.ops (s.offer_frame l n) :)

theorem State.enterReadOnly_ops (s : State) (cause : Cause) : (s.enterReadOnly cause).ops = s.ops := by
  rw [State.enterReadOnly]
  split <;> rfl

theorem State.endRunning_ops (s : State) (r : Running) (result : JobResult) : (s.endRunning r result).ops = s.ops := by
  have released (t : State) : (t.releaseJob r.job).ops = t.ops := (congrArg State.ops (t.releaseJob_gaveBack r.job).frame :)
  have checked (t : State) : (t.checkGeneration r.generation).ops = t.ops := by
    rw [State.checkGeneration]
    split
    · exact t.enterReadOnly_ops _
    · rfl
  rw [State.endRunning, checked]
  refine (State.offer_ops _ _ _).trans ((released _).trans ?_)
  rw [s.abandonPlaced_frame]

theorem State.stopWork_ops (s : State) (cause : Cause) (result : JobResult) : (s.stopWork cause result).ops = s.ops := by
  rw [State.stopWork]
  split
  · next m _ =>
    rw [State.mountEnd, s.victimsToFull_frame]
    rfl
  · dsimp only
    split
    · rw [State.endRunning_ops, State.enterReadOnly_ops]
    · exact s.enterReadOnly_ops cause

end

/-! ### The operation that a step of the walk asks for -/

section
variable {s u : State} {p : Pass}

/-- An operation that the walk asks for as its next one: the first line of a copy, or the erase after the walk. -/
def ArrayOp.ofWalk : ArrayOp → Prop
  | .image .reclaim _ _ _ _ => True
  | .erase _ .reclaim => True
  | _ => False

/-- The state in which the walk has asked for its next operation has no pause point before it, and the supply, the store state and the queue
stay. -/
structure State.Asked (s u : State) : Prop where
  pausePoint : u.pausePoint = none
  supply : u.supply = s.supply
  store : u.store = s.store
  queue : u.queue = s.queue
  held : u.held = s.held

theorem State.pausePoint_of_copy (copies : ∀ q : Pass, s.pass = some q → q.copy ≠ none) : s.pausePoint = none := by
  cases point : s.pausePoint with
  | none => rfl
  | some q =>
    obtain ⟨pass, -, -, bare⟩ := State.pausePoint_some point
    exact absurd bare (copies q pass)

/-- No program of a header line is an operation of the walk. -/
theorem not_ofWalk_header {s : State} {x : Sector} {field : HeaderField} {pattern : HeaderLine} {op : ArrayOp} (none' : s.ops = [])
    (ops : (s.requestHeader x field pattern).ops = [op]) : ¬ op.ofWalk := by
  have last : s.ops ++ [ArrayOp.header x field pattern (s.array.headers[x] &&& pattern)] = [op] := ops
  rw [none', List.nil_append] at last
  obtain rfl := List.head_eq_of_cons_eq last
  exact id

theorem State.roomForCopy_asked {x : Writing} (writes : s.writing .reclaim = some x) {op : ArrayOp} (walk : op.ofWalk) (none' : s.ops = [])
    (ops : s.roomForCopy.ops = [op]) : s.Asked s.roomForCopy := by
  have copies : ∀ q : Pass, s.pass = some q → q.copy ≠ none := fun q pass bare => by
    rw [State.writing, pass, Option.bind_some, bare] at writes
    cases writes
  rw [State.roomForCopy, writes] at ops ⊢
  dsimp only at ops ⊢
  rw [State.placeImage] at ops ⊢
  cases found : s.openSector with
  | some y =>
    obtain ⟨z, q, c⟩ := y
    rw [found] at ops
    by_cases fits : imageFits x.image c = true
    · dsimp only
      rw [if_pos fits]
      exact ⟨State.pausePoint_of_copy copies, rfl, rfl, rfl, rfl⟩
    · dsimp only at ops
      rw [if_neg fits] at ops
      exact absurd walk (not_ofWalk_header none' ops)
  | none =>
    rw [found] at ops
    dsimp only at ops
    rw [State.openForCopy] at ops
    cases chosen : s.chooseOpen true with
    | some y =>
      rw [chosen] at ops
      exact absurd walk (not_ofWalk_header (s := { s with openSequenceNext := openSequenceAfter s.openSequenceNext }) none' ops)
    | none =>
      rw [chosen] at ops
      have same : s.keepPass.noProgress.ops = s.ops := State.stopWork_ops ..
      rw [same, none'] at ops
      cases ops

/-- While the erase of its victim is in progress a pass has no pause point before it. -/
theorem State.pausePoint_of_erase (erasing : ∀ q : Pass, s.pass = some q → q.phase = .erasing)
    (erases : s.ops.any ArrayOp.isVictimErase = true) : s.pausePoint = none := by
  unfold State.pausePoint
  split
  · refine Option.filter_eq_none_iff.mpr fun q pass => ?_
    rw [Pass.betweenSteps, erasing q pass, erases]
    simp
  · rfl

theorem State.walkImage_asked {victim : Sector} {c : Nat} (pass : s.pass = some p) {op : ArrayOp} (walk : op.ofWalk) (none' : s.ops = [])
    (ops : (s.walkImage victim c).ops = [op]) : s.Asked (s.walkImage victim c) := by
  have idle {t : State} (same : t.ops = s.ops) (also : t.ops = [op]) : False := by
    rw [same, none'] at also
    cases also
  by_cases past : 256 ≤ c
  · rw [State.walkImage_of_end pass past] at ops
    exact (idle rfl ops).elim
  by_cases valid : ∃ h, readImageHeader (s.array.readLine ⟨victim, c⟩) c = .image h
  · obtain ⟨h, read⟩ := valid
    rw [State.walkImage_of_image (by omega) read] at ops ⊢
    cases step : s.walkStep h ⟨victim, c⟩ with
    | skip =>
      rw [step] at ops
      exact (idle rfl ops).elim
    | drop t =>
      rw [step] at ops
      have frame := State.drop_frame (State.walkStep_drop step)
      exact (idle (congrArg State.ops frame :) ops).elim
    | copy i =>
      rw [step] at ops
      have writes : ((s.setPhase (.copying c)).setWriting .reclaim (some ⟨i, some ⟨victim, c⟩, 0⟩)).writing .reclaim
          = some ⟨i, some ⟨victim, c⟩, 0⟩ := by
        rw [State.setPhase, State.setWriting, State.writing, pass]
        rfl
      obtain ⟨point, supply, store, queue, held⟩ := State.roomForCopy_asked writes walk none' ops
      exact ⟨point, supply, store, queue, held⟩
  · rw [State.walkImage_of_invalid pass (by omega) fun h read => valid ⟨h, read⟩] at ops
    exact (idle rfl ops).elim

/-- Where a pass that goes on asks for an operation of its walk, it has no pause point before it and what closes the event stays. -/
theorem State.passOn_asked (pass : s.pass = some p) {op : ArrayOp} (walk : op.ofWalk) (none' : s.ops = [])
    (ops : (s.passOn p).ops = [op]) : s.Asked (s.passOn p) := by
  have idle (also : s.ops = [op]) : False := by
    rw [none'] at also
    cases also
  rw [State.passOn] at ops ⊢
  cases phase : p.phase with
  | marking =>
    rw [phase] at ops
    exact (idle ops).elim
  | preparing =>
    rw [phase] at ops
    exact (idle ops).elim
  | erasing =>
    refine ⟨State.pausePoint_of_erase (fun q moved => ?_) (by simp [State.eraseVictim, State.request, ArrayOp.isVictimErase]), rfl, rfl, rfl, rfl⟩
    obtain ⟨q', -, rfl⟩ := Option.map_eq_some_iff.mp (show s.pass.map (fun p => { p with phase := PassPhase.erasing }) = some q from moved)
    rfl
  | copying c =>
    rw [phase] at ops
    exact State.walkImage_asked pass walk none' ops

end

/-! ### Where a pass goes on (R99 to R103, R107) -/

section
variable {s : State} {p : Pass}

/-- A pass between its steps goes on as it is resumed. -/
theorem State.passOn_eq_resumePass (pass : s.pass = some p) (engine : s.engine = .reclaiming p.mode) (running : p.running = true)
    (walks : p.phase ≠ .marking) : s.passOn p = s.resumePass p p.mode := by
  have same : s = { s with pass := some { p with mode := p.mode, running := true }, engine := .reclaiming p.mode } := by
    rw [← running, ← engine]
    exact congrArg (fun o => { s with pass := o }) pass
  have resumes : s.resumePass p p.mode
      = ({ s with pass := some { p with mode := p.mode, running := true }, engine := .reclaiming p.mode } : State).passOn p := by
    rw [State.resumePass]
    split
    · exact absurd ‹_› walks
    · rfl
  rw [resumes]
  exact congrArg (fun t : State => t.passOn p) same

/-- In READY with NORMAL supply a pass between its steps, or one that resumes, goes on by the same rule. -/
theorem exec_passResume_of_suspended (released : s.held = false) (pass : s.pass = some p) (allowed : s.backgroundAllowed = true)
    (suspended : p.running = false) : exec .passResume s = .next (s.resumePass p .background).settle := by
  have resumes : s.passResume = s.resumePass p .background := by
    rw [State.passResume, pass]
    exact if_pos ⟨allowed, suspended⟩
  rw [exec_passResume released, resumes]

/-- A pass that the engine runs between two of its steps has a pause point before it. -/
theorem State.pausePoint_of_between (pass : s.pass = some p) (engine : s.engine = .reclaiming p.mode) (running : p.running = true)
    (bare : p.copy = none) (between : (∃ c, p.phase = .copying c) ∨ (p.phase = .erasing ∧ ∀ x, ArrayOp.erase x .reclaim ∉ s.ops)) :
    s.pausePoint = some p := by
  have here : p.betweenSteps s.ops = true := by
    rw [Pass.betweenSteps, running, bare]
    rcases between with ⟨c, phase⟩ | ⟨phase, absent⟩
    · rw [phase]
      rfl
    · have none' : s.ops.any ArrayOp.isVictimErase = false := List.any_eq_false.mpr fun op mem erase => by
        cases op with
        | erase x e =>
          cases e with
          | reclaim => exact absent x mem
          | _ => cases erase
        | _ => cases erase
      rw [phase, none']
      rfl
  rw [State.pausePoint, engine, pass]
  exact if_pos here

/-- A job that takes the array from a background pass at its pause point starts as if the pass had stopped there. -/
theorem State.jobStart_of_yielding {t : State} (point : s.pausePoint = some p) (background : p.mode = .background) (normal : s.supply = .normal)
    (queued : s.queue ≠ []) (arrival : s.arrive p = t) (idle : t.engine = .idle) (normal' : t.supply = .normal) (queue : t.queue = s.queue) :
    s.jobStart = t.jobStart := by
  have yields : s.yielded = t := by
    rw [State.yielded, point]
    exact (if_pos ⟨background, normal, queued⟩).trans arrival
  obtain ⟨j, rest, list⟩ := List.exists_cons_of_ne_nil queued
  rw [State.jobStart_of_idle idle normal' (queue.trans list), State.jobStart, list]
  dsimp only
  rw [yields, if_pos ⟨idle, normal⟩]

/-- With no operation in progress a completion meets the pause points before the operation that the pass comes to. -/
theorem State.caughtUp_of_asked (point : s.pausePoint = some p) (none' : s.ops = []) (asked : s.Asked (s.arrive p)) :
    s.caughtUp = s.arrive p := by
  rw [State.caughtUp, none', if_pos (by rfl), State.passPoints, point]
  dsimp only
  rw [State.passPoints, asked.pausePoint]

end

/-- Settles O41: a pass goes on as it is resumed, and a pause point is an arrival. -/
theorem passWalksImageByImage : Obligations.PassWalksImageByImage := by
  intro s p released pass going goesOn
  have goes {out : Host.Outcome State Fault Refusal} {mode : PassMode}
      (rests : ∀ u : State, s.resumePass p mode = u → u.supply = s.supply → u.store = s.store → u.queue = s.queue → out = .next u) :
      goesOn out mode := by
    refine ⟨fun phase => ?erasing, fun c phase past => ?past, fun c phase _ within => ⟨fun invalid => ?invalid, fun h read =>
      ⟨fun lost => ?skip, fun e kind solo oldest found loc deleted entrySolo free => ?drop, fun x q w pointed stays opened fits => ?copy⟩⟩⟩
    case erasing => exact rests _ (State.resumePass_of_erasing phase mode) rfl rfl rfl
    case past => exact rests _ (State.resumePass_of_end phase past mode) rfl rfl rfl
    all_goals
      let t : State := { s with pass := some { p with mode := mode, running := true }, engine := .reclaiming mode }
      have walks : s.resumePass p mode = t.walkImage p.victim c := State.resumePass_of_copying phase mode
    case invalid => exact rests _ (walks.trans (State.walkImage_of_invalid (s := t) rfl within invalid)) rfl rfl rfl
    case skip => exact rests _ (walks.trans (State.walkImage_of_skip (s := t) rfl within read lost)) rfl rfl rfl
    case drop =>
      exact rests _ (walks.trans (State.walkImage_of_drop (s := t) rfl within read kind solo oldest found loc deleted entrySolo free)) rfl rfl rfl
    case copy =>
      have copies := walks.trans
        (State.walkImage_of_copy (s := t) rfl within read pointed stays ((State.openSector_congr fun _ => rfl).trans opened) fits)
      rw [State.copyOf_eq] at copies
      exact rests _ copies rfl rfl rfl
  refine ⟨fun idle normal ready queue suspended => ?resume, fun empty engine running bare between formats => ?pause⟩
  case resume =>
    have resumed := exec_passResume_of_suspended released pass (by simp [State.backgroundAllowed, idle, normal, ready, queue]) suspended
    have rests (u : State) (goes : s.resumePass p .background = u) (supply : u.supply = s.supply) (store : u.store = s.store) :
        exec .passResume s = .next u := by
      rw [resumed, goes, State.settle_of_ready (supply.trans normal) (store.trans ready)]
    exact ⟨fun phase => rests _ ((State.resumePass_of_marking phase .background).trans (congrArg (fun now => ({ s with
        pass := some { p with phase := now, mode := .background, running := true }, engine := .reclaiming .background } : State).markVictim
          p.victim) phase)) rfl rfl,
      goes fun u resumes supply store _ => rests u resumes supply store⟩
  case pause =>
    have point := State.pausePoint_of_between pass engine running bare between
    have arrives : step s = .next (s.arrive p).settle := by
      rw [step, empty]
      exact congrArg Host.Outcome.next (State.quiet_of_pausePoint released point)
    have suspends (rest : Engine) : s.suspendPass rest = { s with pass := some { p with running := false }, engine := rest } := by
      rw [State.suspendPass, pass]
      rfl
    refine ⟨fun low => ?low, fun normal background queued => ?yields, fun normal alone => ?on⟩
    case low =>
      rw [arrives, State.arrive_of_low p low, suspends]
      exact congrArg Host.Outcome.next (State.settle_of_engaged nofun formats)
    case yields =>
      have arrival : s.arrive p = { s with pass := some { p with running := false }, engine := .idle } :=
        (State.arrive_of_queued normal background queued).trans (suspends .idle)
      constructor
      · rw [arrives, arrival]
        exact congrArg Host.Outcome.next (State.settle_of_normal normal formats)
      · rw [exec_jobStart released, State.jobStart_of_yielding point background normal queued arrival rfl normal rfl]
        exact (exec_jobStart (s := { s with pass := some { p with running := false }, engine := .idle }) released).symm
    case on =>
      have arrival : s.arrive p = s.resumePass p p.mode :=
        (State.arrive_goes_on normal fun background => alone.resolve_left (by rw [background]; nofun)).trans
          (State.passOn_eq_resumePass pass engine running (by rcases between with ⟨c, phase⟩ | ⟨phase, -⟩ <;> (rw [phase]; nofun)))
      have still {u : State} (supply : u.supply = s.supply) (store : u.store = s.store) (queue : u.queue = s.queue) : u.settle = u :=
        State.settle_of_normal (supply.trans normal) (by rw [store, queue]; exact formats)
      refine ⟨goes fun u resumes supply store queue => ?_, fun t none' stepped => ?_⟩
      · rw [arrives, arrival, resumes, still supply store queue]
      · obtain rfl : (s.arrive p).settle = t := Host.Outcome.next.inj (arrives.symm.trans stepped)
        have meets {op : ArrayOp} (walk : op.ofWalk) (ops : (s.arrive p).settle.ops = [op]) :
            s.caughtUp = (s.arrive p).settle ∧ (s.arrive p).settle.held = false := by
          have going : s.arrive p = s.passOn p :=
            State.arrive_goes_on normal fun background => alone.resolve_left (by rw [background]; nofun)
          have asked : s.Asked (s.arrive p) := by
            rw [State.settle_ops, going] at ops
            rw [going]
            exact State.passOn_asked pass walk none' ops
          rw [still asked.supply asked.store asked.queue]
          exact ⟨State.caughtUp_of_asked point none' asked, asked.held.trans released⟩
        refine ⟨fun start n pattern expected readback ops => ?_, fun x ops => ?_⟩
        · obtain ⟨caught, released'⟩ := meets (op := .image .reclaim start n pattern expected) trivial ops
          rw [exec_lineProgramDone released, exec_lineProgramDone released', State.lineProgramDone, caught,
            State.lineProgramDone_of_image readback ops, State.lineCompleted, ops]
          rfl
        · obtain ⟨caught, released'⟩ := meets (op := .erase x .reclaim) trivial ops
          rw [exec_sectorEraseDone released, exec_sectorEraseDone released', State.sectorEraseDone, caught,
            State.sectorEraseDone_of_erase ops rfl, State.eraseCompleted, ops]
          rfl

end Sys2Proof.Machine
end

section
/-! PROOFS. The last line of an image, and the repoint of a copy (R11, R62, R104, R106). -/

namespace Sys2Proof.Machine

/-! ### The directory after an insertion (R7, R10) -/

/-- An insertion gives the key its new entry and leaves those of the other keys. -/
theorem find?_insertEntry (e : DirEntry) (k : Key) : ∀ entries : List DirEntry,
    (insertEntry e entries).find? (fun d => d.key == k) = if e.key = k then some e else entries.find? (fun d => d.key == k)
  | [] => by
    rw [insertEntry, List.find?_singleton]
    simp
  | d :: rest => by
    rw [insertEntry]
    by_cases same : e.key = k
    · rw [if_pos same]
      split
      · exact List.find?_cons_of_pos (by simpa using same)
      · split
        · exact List.find?_cons_of_pos (by simpa using same)
        · next other =>
          rw [List.find?_cons_of_neg (by simpa using fun e' => other (same.trans e'.symm)), find?_insertEntry, if_pos same]
    · rw [if_neg same]
      split
      · rw [List.find?_cons_of_neg (by simpa using same)]
      · split
        · next twin =>
          rw [List.find?_cons_of_neg (by simpa using same), List.find?_cons_of_neg (by simpa [← twin] using same)]
        · rw [List.find?_cons, List.find?_cons, find?_insertEntry, if_neg same]

theorem State.key_of_lookup {s : State} {k : Key} {e : DirEntry} (found : s.lookup k = some e) : e.key = k := by
  have meets := List.find?_some found
  simpa using meets

section
variable {s : State}

/-- The last line of an image passes (R62). -/
theorem State.lineProgramDone_of_image_passed {w : Writer} {start : Loc} {n : Nat} {pattern expected : Line} {rest : List ArrayOp} {x : Writing}
    (ops : s.ops = .image w start n pattern expected :: rest) (writes : s.writing w = some x) (last : n + 1 = x.image.lines) :
    s.lineProgramDone .asExpected
      = (s.popOp rest (s.array.writeLine ⟨start.sector, start.line + n⟩ expected)).imagePassed w x start := by
  rw [State.lineProgramDone_of_image .asExpected ops]
  have writes' : (s.popOp rest (s.array.writeLine ⟨start.sector, start.line + n⟩ expected)).writing w = some x :=
    (State.writing_congr rfl rfl).trans writes
  change (if expected = expected then
    (s.popOp rest (s.array.writeLine ⟨start.sector, start.line + n⟩ expected)).linePassed w start n else _) = _
  rw [if_pos rfl, State.linePassed, writes']
  exact if_neg (by omega)

/-- The sector table after the lines of an image have become live, and those it replaces stale. -/
def movedLines (sectors : Vector SectorRecord 32) (a b : Sector) (k n : Nat) : Vector SectorRecord 32 :=
  let placed := sectors.set a { sectors[a] with pending := sectors[a].pending - k, live := sectors[a].live + k }
  placed.set b { placed[b] with live := placed[b].live - n, stale := placed[b].stale + n }

theorem getElem_movedLines (sectors : Vector SectorRecord 32) (a b x : Sector) (k n : Nat) : (movedLines sectors a b k n)[x] =
    (let placed : SectorRecord :=
      if x = a then { sectors[x] with pending := sectors[x].pending - k, live := sectors[x].live + k } else sectors[x]
     if x = b then { placed with live := placed.live - n, stale := placed.stale + n } else placed) := by
  have first (z : Sector) : (sectors.set a { sectors[a] with pending := sectors[a].pending - k, live := sectors[a].live + k })[z] =
      if z = a then { sectors[z] with pending := sectors[z].pending - k, live := sectors[z].live + k } else sectors[z] := by
    rw [getElem_set_sector]
    by_cases same : z = a
    · rw [if_pos same, if_pos same, same]
    · rw [if_neg same, if_neg same]
  rw [movedLines]
  dsimp only
  rw [← first x, getElem_set_sector]
  by_cases same : x = b
  · rw [if_pos same, if_pos same, same]
  · rw [if_neg same, if_neg same]

/-- A repoint of a SOLO entry moves it to the copy (R11). -/
theorem State.repoint_of_solo {k : Key} {source copy : Loc} {lines : Nat} {e : DirEntry} (found : s.lookup k = some e) (here : e.loc = source)
    (solo : e.tagging = .solo) : s.repoint k source copy lines = { s with
      directory := insertEntry { e with loc := copy } s.directory
      sectors := movedLines s.sectors copy.sector source.sector lines lines } := by
  rw [State.repoint, found]
  dsimp only
  rw [if_pos here, State.released_of_solo _ solo, ← solo]
  rfl

/-- At the boundary after a copy a background pass gives the array to a queued job (R106). -/
theorem State.atBoundary_of_queued {p q : Pass} {c : Nat} (pass : s.pass = some q) (normal : s.supply = .normal) (background : p.mode = .background)
    (queued : s.queue ≠ []) : s.atBoundary p c = { s with pass := some { q with phase := .copying c, running := false }, engine := .idle } := by
  rw [State.atBoundary, State.arrive_of_queued (s := s.setPhase (.copying c)) (p := { p with phase := .copying c }) normal background queued,
    State.suspendPass, State.setPhase, pass]
  rfl

/-- The copy of a SOLO value passes in a background pass with a job queued: its key is repointed and the pass suspends past the image. -/
theorem State.copyPassed_of_solo {p : Pass} {x : Writing} {e : DirEntry} {source loc : Loc} (pass : s.pass = some p) (normal : s.supply = .normal)
    (background : p.mode = .background) (queued : s.queue ≠ []) (from' : x.source = some source) (value : x.image.kind = .value)
    (found : s.lookup x.image.key = some e) (here : e.loc = source) (solo : e.tagging = .solo) :
    s.copyPassed p x loc = { s with
      directory := insertEntry { e with loc := loc } s.directory
      sectors := movedLines s.sectors loc.sector source.sector x.image.lines x.image.lines
      pass := some { p with phase := .copying (source.line + x.image.lines), running := false, copy := none }
      engine := .idle } := by
  have set : s.setWriting .reclaim none = { s with pass := some { p with copy := none } } := by
    rw [State.setWriting, pass]
    rfl
  rw [State.copyPassed, from']
  dsimp only
  rw [value, set]
  dsimp only
  rw [State.repoint_of_solo (s := { s with pass := some { p with copy := none } }) found here solo]
  exact State.atBoundary_of_queued (q := { p with copy := none }) rfl normal background queued

end

/-- A line program that completes in READY with NORMAL supply rests in the state it comes to. -/
theorem exec_lineProgramDone_ready {s t : State} {readback : LineReadback} (released : s.held = false) (done : s.lineProgramDone readback = t)
    (normal : t.supply = .normal) (ready : t.store = .ready) : exec (.lineProgramDone readback) s = .next t := by
  rw [exec_lineProgramDone released, done, State.settle_of_ready normal ready]

/-- Settles O35: the repoint, then the arrival at the boundary. -/
theorem copyRepointsAndYields : Obligations.CopyRepointsAndYields := by
  intro s p start source n pattern expected k g v failures e released ready normal ops pass background running queued copy last found here solo apart
    lines
  have size : (⟨.value, .solo, k, g, v⟩ : Image).lines = lines := Image.lines_eq (.inl rfl)
  have writes : s.writing .reclaim = some ⟨⟨.value, .solo, k, g, v⟩, some source, failures⟩ := by
    rw [State.writing, pass]
    exact copy
  have same : e.key = k := State.key_of_lookup found
  have done : s.lineProgramDone .asExpected = { s with
      array := s.array.writeLine ⟨start.sector, start.line + n⟩ expected
      ops := []
      directory := insertEntry { e with loc := start } s.directory
      sectors := movedLines s.sectors start.sector source.sector lines lines
      pass := some { p with phase := .copying (source.line + lines), running := false, copy := none }
      engine := .idle } := by
    rw [State.lineProgramDone_of_image_passed ops writes (by rw [size]; omega), State.imagePassed, State.popOp_pass, pass]
    dsimp only
    refine (State.copyPassed_of_solo (s := s.popOp [] _)
      (x := ⟨⟨.value, .solo, k, g, v⟩, some source, failures⟩) (loc := start) pass normal background queued rfl rfl found here solo).trans ?_
    rw [size]
    rfl
  refine ⟨_, exec_lineProgramDone_ready released done normal ready, ?_, fun j other => ?_, fun z => ?_, rfl, rfl, rfl, rfl, rfl, rfl, rfl, rfl, rfl, rfl, rfl⟩
  · exact (find?_insertEntry { e with loc := start } k s.directory).trans (if_pos same)
  · exact (find?_insertEntry { e with loc := start } j s.directory).trans (if_neg fun e' => other (e'.symm.trans same))
  · change (movedLines s.sectors start.sector source.sector lines lines)[z] = _
    rw [getElem_movedLines]
    dsimp only
    by_cases atCopy : z = start.sector
    · rw [if_pos atCopy, if_neg fun e' => apart (atCopy.symm.trans e'), if_pos atCopy]
    · rw [if_neg atCopy, if_neg atCopy]

end Sys2Proof.Machine
end

section
/-! PROOFS. The switch of the job in progress, in one event (R10, R76, R83, R91, R193). -/

namespace Sys2Proof.Machine

/-! ### The notices of a switch (R91, R193) -/

/-- The KEY_CHANGED notices that a link is offered for the keys it watches. -/
def Framer.toldOf (f : Framer) (watches : List Key) (g : Gen) (images : List Image) : Framer :=
  images.foldl (fun f i => if watches.contains i.key then f.offer (.keyChanged i.key g (decide (i.kind ≠ .value))) else f) f

theorem Framer.offer_watches (f : Framer) (n : Notice) : (f.offer n).watches = f.watches := by
  rw [Framer.offer]
  repeat' split
  all_goals rfl

section
variable {s : State} {g : Gen}

theorem State.notifyChanged_link (l m : Link) : ∀ (images : List Image) (s : State),
    (s.notifyChanged l g images).link m = if l = m then (s.link m).toldOf (s.link m).watches g images else s.link m
  | [], s => by rw [State.notifyChanged, Framer.toldOf, List.foldl_nil, ite_self]
  | i :: rest, s => by
    rw [State.notifyChanged]
    split
    · next watched =>
      rw [State.notifyChanged_link l m rest, State.link_offer]
      by_cases same : l = m
      · subst same
        rw [if_pos rfl, if_pos rfl, if_pos rfl, Framer.toldOf, Framer.toldOf, List.foldl_cons, if_pos watched, Framer.offer_watches]
      · rw [if_neg same, if_neg same, if_neg same]
    · next unwatched =>
      rw [State.notifyChanged_link l m rest]
      by_cases same : l = m
      · subst same
        rw [if_pos rfl, if_pos rfl, Framer.toldOf, Framer.toldOf, List.foldl_cons, if_neg unwatched]
      · rw [if_neg same, if_neg same]

theorem State.GaveBack.notifyChanged {jobs : List Job} {s : State} (l : Link) : ∀ (images : List Image) {t : State},
    State.GaveBack jobs s t → State.GaveBack jobs s (t.notifyChanged l g images)
  | [], _, gave => gave
  | i :: rest, t, gave => by
    rw [State.notifyChanged]
    split
    · exact State.GaveBack.notifyChanged l rest (gave.offer l _)
    · exact State.GaveBack.notifyChanged l rest gave

/-! ### The switch (R76) -/

/-- The state in which the directory and the mark table have taken the images of the job in progress, and the engine lets it go. -/
def State.taken (s : State) (r : Running) : State :=
  let records := s.recordImages r.job.work r.generation
  { (s.switchAll (records.zip r.placed)).switchMark r.generation records.length (if 2 ≤ records.length then r.placed else []) with
    running := none, engine := .idle }

/-- The notices of a switch for one link: JOB_DONE at the origin, then KEY_CHANGED for each changed key it watches. -/
def Framer.toldSwitch (f : Framer) (l : Link) (r : Running) (images : List Image) : Framer :=
  (if l = r.job.origin then f.offer (.jobDone r.job.ticket r.job.work.kind .ok r.generation) else f).toldOf f.watches r.generation images

/-- What a switch does that changes no zone and does not reach the generation limit. -/
structure State.Switched (r : Running) (s t : State) : Prop where
  gaveBack : State.GaveBack [r.job] (s.taken r) t
  links : ∀ l : Link, t.link l = ((s.taken r).link l).toldSwitch l r (s.recordImages r.job.work r.generation)

theorem State.releaseJob_idle (s : State) (j : Job) :
    { s.releaseJob j with running := none, engine := .idle } = ({ s with running := none, engine := .idle } : State).releaseJob j := by
  obtain ⟨ticket, work, origin, lines, slots⟩ := j
  cases work <;> rfl

theorem State.switch_switched {r : Running} (unlimited : r.generation.toNat + 1 < 0xFFFFFF00) (zones : ∀ table, r.job.work ≠ .zoneUpdate table) :
    State.Switched r s (s.switch r) := by
  have below : passesLimit r.generation = false := by
    rw [passesLimit, decide_eq_false (p := Config.generationLimit ≤ r.generation.toNat + 1) (by rw [Config.generationLimit]; omega), Bool.and_false]
  have keeps (t : State) : t.switchZones r.job.work = t := by
    cases work : r.job.work with
    | zoneUpdate table => exact absurd work (zones table)
    | _ => rfl
  have switch : s.switch r = ((((s.taken r).releaseJob r.job).offerDone r.job .ok r.generation).notifyChanged .link0 r.generation
      (s.recordImages r.job.work r.generation)).notifyChanged .link1 r.generation (s.recordImages r.job.work r.generation) := by
    rw [State.switch]
    dsimp only
    rw [keeps, State.checkGeneration, below, State.releaseJob_idle]
    rfl
  rw [switch]
  constructor
  · exact (((State.releaseJob_gaveBack _ _).offer _ _).notifyChanged .link0 _).notifyChanged .link1 _
  · intro l
    have told : (((s.taken r).releaseJob r.job).offerDone r.job .ok r.generation).link l = if l = r.job.origin then
        ((s.taken r).link l).offer (.jobDone r.job.ticket r.job.work.kind .ok r.generation) else (s.taken r).link l := by
      rw [State.offerDone, State.link_offer, State.releaseJob_link]
      by_cases own : l = r.job.origin
      · rw [if_pos own, if_pos own.symm]
      · rw [if_neg own, if_neg fun e => own e.symm]
    have watches : ((((s.taken r).releaseJob r.job).offerDone r.job .ok r.generation).link l).watches = ((s.taken r).link l).watches := by
      rw [told]
      split
      · rw [Framer.offer_watches]
      · rfl
    rw [State.notifyChanged_link, State.notifyChanged_link, Framer.toldSwitch, ← told]
    cases l
    · rw [if_neg nofun, if_pos rfl, watches]
    · rw [if_pos rfl, if_neg nofun, watches]

/-- The last image of a job passes: the job switches (R74). -/
theorem State.hostImagePassed_of_last {r : Running} {x : Writing} {loc : Loc} (run : s.running = some r) (bare : r.fold = none)
    (last : (s.jobImages r.job.work r.generation).length ≤ r.placed.length + 1) :
    s.hostImagePassed r x loc = ({ s with running := some { r with writing := none, placed := r.placed ++ [loc] } } : State).switch
      { r with writing := none, placed := r.placed ++ [loc] } := by
  have goes : s.hostImagePassed r x loc
      = ({ s with running := some { r with writing := none, placed := r.placed ++ [loc] } } : State).nextImage := by
    have set : s.setWriting .host none = { s with running := some { r with writing := none } } := by
      rw [State.setWriting, run]
      rfl
    rw [State.hostImagePassed, set]
    split
    · next f folds => rw [bare] at folds; cases folds
    · rfl
  have none' : ({ s with running := some { r with writing := none, placed := r.placed ++ [loc] } } : State).jobImages r.job.work
      r.generation = s.jobImages r.job.work r.generation := by
    cases r.job.work <;> rfl
  rw [goes, State.nextImage]
  dsimp only
  rw [none', List.getElem?_eq_none (by rw [List.length_append]; exact last)]

/-- In READY the engine rests in IDLE, or in LOW supply in PAUSED where a job is queued or a pass suspended (R146). -/
theorem State.settle_of_idle (ready : s.store = .ready) (idle : s.engine = .idle) :
    s.settle = { s with engine := if s.supply = .low ∧ (s.queue ≠ [] ∨ s.pass ≠ none) then .paused else .idle } := by
  have formats : ∀ cause, s.store = .readOnly cause → ∀ j ∈ s.queue, j.work = .format := fun cause readOnly => by
    rw [ready] at readOnly
    cases readOnly
  by_cases low : s.supply = .low
  · rw [State.settle_of_low low formats, idle]
    simp [low]
  · have normal : s.supply = .normal := by
      cases supply : s.supply with
      | low => exact absurd supply low
      | normal => rfl
    rw [State.settle_of_normal normal formats, if_neg fun h => low h.1, ← idle]

/-- A single record image is taken with no MARK. -/
theorem State.taken_of_one {r : Running} {i : Image} {loc : Loc} (one : s.recordImages r.job.work r.generation = [i]) (placed : r.placed = [loc]) :
    s.taken r = { s.switchOne i loc with running := none, engine := .idle } := by
  rw [State.taken, one, placed]
  rfl

end

/-- The sector table and the mark table after the directory has taken one image (R10, R14, R83). -/
theorem State.switchOne_eq (s : State) (i : Image) (loc : Loc) : ∃ marks sectors,
    s.switchOne i loc = { s with directory := insertEntry (i.entryAt loc) s.directory, marks := marks, sectors := sectors } ∧
    (s.lookup i.key = none → marks = s.marks ∧ ∀ x : Sector, sectors[x] =
      if x = loc.sector then { s.sectors[x] with pending := s.sectors[x].pending - i.lines, live := s.sectors[x].live + i.lines }
      else s.sectors[x]) ∧
    (∀ old, s.lookup i.key = some old → old.tagging = .solo →
      marks = s.marks ∧ sectors = movedLines s.sectors loc.sector old.loc.sector i.lines old.lines) := by
  refine ⟨_, _, s.switchOne_frame i loc, fun absent => ?_, fun old found solo => ?_⟩
  · rw [State.switchOne_of_new absent]
    refine ⟨rfl, fun x => (getElem_set_sector ..).trans ?_⟩
    by_cases same : x = loc.sector
    · rw [if_pos same, if_pos same, same]
    · rw [if_neg same, if_neg same]
  · rw [State.switchOne_of_old found, State.released_of_solo _ solo]
    exact ⟨rfl, rfl⟩

/-- Settles O33: the switch of one image. -/
theorem soloWriteSwitches : Obligations.SoloWriteSwitches := by
  intro s start n pattern expected r k v failures released ready ops run work bare placed writing last below
  have lines : (⟨.value, .solo, k, r.generation, v⟩ : Image).lines = 1 + (v.length + 15) / 16 := Image.lines_eq (.inl rfl)
  have writes : s.writing .host = some ⟨⟨.value, .solo, k, r.generation, v⟩, none, failures⟩ := by
    rw [State.writing, run]
    exact writing
  let i : Image := ⟨.value, .solo, k, r.generation, v⟩
  let q : Running := { r with writing := none, placed := r.placed ++ [start] }
  obtain ⟨popped, popped_eq⟩ : ∃ popped : State, popped
      = { s with array := s.array.writeLine ⟨start.sector, start.line + n⟩ expected, ops := [], running := some q } := ⟨_, rfl⟩
  have one (t : State) : t.recordImages r.job.work r.generation = [i] := by rw [work]; rfl
  have done : s.lineProgramDone .asExpected = popped.switch q := by
    rw [State.lineProgramDone_of_image_passed ops writes (by rw [lines]; omega), State.imagePassed, State.popOp_running, run]
    dsimp only
    rw [State.hostImagePassed_of_last (s := s.popOp [] _) run bare (by rw [State.jobImages_of_one (one _), placed]; exact (Nat.le_refl _)), popped_eq]
    rfl
  obtain ⟨gave, links⟩ := State.switch_switched (s := popped) (r := q) below (by rw [show q.job = r.job from rfl, work]; nofun)
  obtain ⟨marks, sectors, switched, new, old⟩ := State.switchOne_eq
    { s with array := s.array.writeLine ⟨start.sector, start.line + n⟩ expected, ops := [], running := some q } i start
  have taken : popped.taken q = { s with
      array := s.array.writeLine ⟨start.sector, start.line + n⟩ expected, ops := [], running := none, engine := .idle
      directory := insertEntry (i.entryAt start) s.directory, marks := marks, sectors := sectors } := by
    have last : q.placed = [start] := congrArg (· ++ [start]) placed
    rw [State.taken_of_one (r := q) (one popped) last, popped_eq, switched]
  rw [taken] at gave links
  rw [← done] at gave links
  obtain ⟨reservedLines, slots, contexts, holds, pool, frame⟩ := gave
  have event := exec_lineProgramDone released .asExpected
  generalize s.lineProgramDone .asExpected = t at *
  have store : t.store = .ready := (congrArg State.store frame :).trans ready
  have supply : t.supply = s.supply := (congrArg State.supply frame :)
  have queue : t.queue = s.queue := (congrArg State.queue frame :)
  have pass : t.pass = s.pass := (congrArg State.pass frame :)
  have lookup (j : Key) : t.lookup j = if k = j then some (i.entryAt start) else s.lookup j := by
    rw [State.lookup, show t.directory = insertEntry (i.entryAt start) s.directory from (congrArg State.directory frame :)]
    exact find?_insertEntry ..
  have frees (h : Handle) : freesContext [r.job] h = false := by simp [freesContext, work]
  refine ⟨t.settle, event, ?_⟩
  rw [State.settle_of_idle store (congrArg State.engine frame :)]
  refine ⟨?key, fun j other => ?others, (congrArg State.running frame :), (congrArg State.ops frame :), store, queue,
    (congrArg State.generationNext frame :), ?lines, ?slots, ?pool, ?holds, ?contexts, (congrArg State.zones frame :), ?engine,
    ⟨fun absent => ?new, fun entry found solo => ?old⟩, fun l => ?links⟩
  case key => exact (lookup k).trans (if_pos rfl)
  case others => exact (lookup j).trans (if_neg (Ne.symm other))
  case lines => exact reservedLines.trans (by simp [q])
  case slots => exact slots.trans (by simp [q])
  case pool =>
    refine pool.trans ?_
    simp [q, frees, Job.soloUnits, work]
    rfl
  case holds =>
    refine holds.trans (List.filter_congr fun p _ => ?_)
    cases p.2 with
    | context h => simp [outlives, q, frees]
    | job ticket => simp [outlives, q, Job.isSolo, work, eq_comm]
  case contexts =>
    refine Vector.ext fun h below => ?_
    exact (contexts ⟨h, below⟩).trans (if_neg (by rw [frees]; nofun))
  case engine => rw [supply, queue, pass]
  case new =>
    obtain ⟨same, placed'⟩ := new absent
    refine ⟨(congrArg State.marks frame :).trans same, fun x => ?_⟩
    refine (congrArg (fun table : Vector SectorRecord 32 => table[x]) (congrArg State.sectors frame :)).trans ((placed' x).trans ?_)
    rw [lines]
  case old =>
    obtain ⟨same, moved⟩ := old entry found solo
    refine ⟨(congrArg State.marks frame :).trans same, fun x => ?_⟩
    refine (congrArg (fun table : Vector SectorRecord 32 => table[x]) ((congrArg State.sectors frame :).trans moved)).trans ?_
    rw [getElem_movedLines, lines]
  case links =>
    have told : t.link l = (s.link l).toldSwitch l q [i] := by
      refine (links l).trans ?_
      rw [show popped.recordImages q.job.work q.generation = [i] from one popped]
      cases l <;> rfl
    refine (?_ : _ = t.link l).trans (told.trans ?_)
    · cases l <;> rfl
    · simp only [Framer.toldSwitch, Framer.toldOf, List.foldl_cons, List.foldl_nil, List.contains_iff_mem, q, work]
      rfl

end Sys2Proof.Machine
end

section
/-! PROOFS. The switch of a COMMIT (R10, R44, R76, R83, R91). -/

namespace Sys2Proof.Machine

/-! ### The directory after all the images of a job (R10) -/

/-- The directory after it has taken images at their locations. -/
def takeImages (entries : List DirEntry) (images : List (Image × Loc)) : List DirEntry :=
  images.foldl (fun d p => insertEntry (p.1.entryAt p.2) d) entries

theorem find?_takeImages_of_other {k : Key} : ∀ {images : List (Image × Loc)} (entries : List DirEntry), (∀ p ∈ images, p.1.key ≠ k) →
    (takeImages entries images).find? (fun d => d.key == k) = entries.find? (fun d => d.key == k)
  | [], _, _ => rfl
  | p :: rest, entries, others => by
    have ih := find?_takeImages_of_other (insertEntry (p.1.entryAt p.2) entries) fun q mem => others q (List.mem_cons_of_mem p mem)
    have apart : (p.1.entryAt p.2).key ≠ k := others p List.mem_cons_self
    rw [takeImages, List.foldl_cons]
    exact ih.trans ((find?_insertEntry ..).trans (if_neg apart))

/-- Of images with different keys each gives its key its entry. -/
theorem find?_takeImages_of_mem {i : Image} {loc : Loc} : ∀ {images : List (Image × Loc)} (entries : List DirEntry),
    images.Pairwise (fun p q => p.1.key ≠ q.1.key) → (i, loc) ∈ images →
    (takeImages entries images).find? (fun d => d.key == i.key) = some (i.entryAt loc)
  | [], _, _, mem => by cases mem
  | p :: rest, entries, apart, mem => by
    obtain ⟨head, tail⟩ := List.pairwise_cons.mp apart
    rw [takeImages, List.foldl_cons]
    rcases List.mem_cons.mp mem with rfl | later
    · have others := find?_takeImages_of_other (insertEntry (i.entryAt loc) entries) fun q here => Ne.symm (head q here)
      exact others.trans ((find?_insertEntry ..).trans (if_pos rfl))
    · exact find?_takeImages_of_mem _ tail later

theorem State.switchAll_eq : ∀ (images : List (Image × Loc)) (s : State), ∃ marks sectors,
    s.switchAll images = { s with directory := takeImages s.directory images, marks := marks, sectors := sectors }
  | [], s => ⟨_, _, rfl⟩
  | p :: rest, s => by
    obtain ⟨marks, sectors, rest_eq⟩ := State.switchAll_eq rest (s.switchOne p.1 p.2)
    refine ⟨marks, sectors, ?_⟩
    rw [State.switchAll, rest_eq, s.switchOne_frame]
    rfl

/-! ### The images of a COMMIT (R73) -/

section
variable {s : State} {h : Handle} {staged : List Staged} {g : Gen}

theorem State.recordImages_of_commit {owner : Link} {timeout : Nat} {ticket : Ticket} (committing : s.context h = .committing owner timeout staged ticket)
    (several : 2 ≤ staged.length) : s.recordImages (.commit h) g = staged.map fun a => a.image .tagged g := by
  rw [State.recordImages, committing]
  change stagedImages staged g = _
  rw [stagedImages, if_pos several]

theorem Staged.image_entryAt (a : Staged) (g : Gen) (loc : Loc) : (a.image .tagged g).entryAt loc = match a.change with
    | .value bytes => ⟨a.key, .live, loc, bytes.length, g, .tagged⟩
    | .delete => ⟨a.key, .deleted, loc, 0, g, .tagged⟩ := by
  rw [Staged.image]
  cases a.change <;> rfl

theorem Staged.image_key (a : Staged) (t : Tagging) (g : Gen) : (a.image t g).key = a.key := by
  rw [Staged.image]
  cases a.change <;> rfl

theorem Staged.image_is_tombstone (a : Staged) (t : Tagging) (g : Gen) : decide ((a.image t g).kind ≠ .value) = decide (a.change = .delete) := by
  rw [Staged.image]
  cases a.change <;> rfl

/-- The images of a list that names no key twice have different keys. -/
theorem zip_images_apart (apart : staged.Pairwise fun a b => a.key ≠ b.key) {places : List Loc} (enough : staged.length ≤ places.length) :
    ((staged.map fun a => a.image .tagged g).zip places).Pairwise fun p q => p.1.key ≠ q.1.key := by
  have keys : ((staged.map fun a => a.image .tagged g).zip places).map Prod.fst = staged.map fun a => a.image .tagged g :=
    List.map_fst_zip (by rw [List.length_map]; exact enough)
  have images : (staged.map fun a => a.image .tagged g).Pairwise fun i j => i.key ≠ j.key :=
    List.pairwise_map.mpr (apart.imp fun {a b} other => by rw [a.image_key, b.image_key]; exact other)
  rw [← keys] at images
  exact (List.pairwise_map (f := Prod.fst)).mp images

/-- A COMMIT of two or more entries takes their images and its MARK. -/
theorem State.taken_of_commit {r : Running} {records : List Image} {places : List Loc} {loc : Loc}
    (is : s.recordImages r.job.work r.generation = records) (several : 2 ≤ records.length) (placed : r.placed = places ++ [loc])
    (full : places.length = records.length) : ∃ marks sectors, s.taken r = { s with
      directory := takeImages s.directory (records.zip places), marks := marks ++ [⟨r.generation, loc, records.length⟩], sectors := sectors
      running := none, engine := .idle } := by
  have zipped : records.zip r.placed = records.zip places := by
    have cut := List.zip_append (l₁ := records) (r₁ := []) (l₂ := places) (r₂ := [loc]) full.symm
    rw [List.append_nil, List.zip_nil_left, List.append_nil] at cut
    rw [placed, cut]
  have mark : (places ++ [loc])[records.length]? = some loc := by rw [← full, List.getElem?_concat_length]
  obtain ⟨marks, sectors, all⟩ := State.switchAll_eq (records.zip places) s
  refine ⟨marks, (({ s with sectors := sectors } : State).pendingToLive loc.sector 1).sectors, ?_⟩
  rw [State.taken, is, zipped, all, if_pos several, State.switchMark, placed, mark]
  rfl

end

/-- Settles O34: the switch of two or more images and their MARK. -/
theorem commitSwitches : Obligations.CommitSwitches := by
  intro s h owner timeout ticket staged start pattern expected r failures released ready ops run work committing several apart full bare writing below
  have writes : s.writing .host = some ⟨⟨.mark, .solo, 0, r.generation, []⟩, none, failures⟩ := by
    rw [State.writing, run]
    exact writing
  let records : List Image := staged.map fun a => a.image .tagged r.generation
  have count : records.length = staged.length := List.length_map _
  let q : Running := { r with writing := none, placed := r.placed ++ [start] }
  obtain ⟨popped, popped_eq⟩ : ∃ popped : State, popped
      = { s with array := s.array.writeLine ⟨start.sector, start.line + 0⟩ expected, ops := [], running := some q } := ⟨_, rfl⟩
  have is (t : State) (same : t.context h = s.context h) : t.recordImages r.job.work r.generation = records := by
    rw [work]
    exact State.recordImages_of_commit (same.trans committing) several
  have done : s.lineProgramDone .asExpected = popped.switch q := by
    rw [State.lineProgramDone_of_image_passed ops writes rfl, State.imagePassed, State.popOp_running, run]
    dsimp only
    have last : ((s.popOp [] (s.array.writeLine ⟨start.sector, start.line + 0⟩ expected)).jobImages r.job.work r.generation).length
        ≤ r.placed.length + 1 := by
      rw [State.jobImages, is (s.popOp [] _) rfl, if_pos (by rw [count]; exact several), List.length_append, count, full]
      exact Nat.le_refl _
    rw [State.hostImagePassed_of_last (s := s.popOp [] _) run bare last, popped_eq]
    rfl
  have records_eq : popped.recordImages q.job.work q.generation = records := is popped (by rw [popped_eq]; rfl)
  obtain ⟨gave, links⟩ := State.switch_switched (s := popped) (r := q) below (by rw [show q.job = r.job from rfl, work]; nofun)
  obtain ⟨marks, sectors, taken⟩ : ∃ marks sectors, popped.taken q = { s with
      array := s.array.writeLine ⟨start.sector, start.line + 0⟩ expected, ops := [], running := none, engine := .idle
      directory := takeImages s.directory (records.zip r.placed), marks := marks ++ [⟨r.generation, start, records.length⟩]
      sectors := sectors } := by
    rw [popped_eq]
    rw [popped_eq] at records_eq
    exact State.taken_of_commit (r := q) records_eq (by rw [count]; exact several) rfl (full.trans count.symm)
  rw [taken, ← done] at gave links
  obtain ⟨reservedLines, slots, contexts, holds, pool, frame⟩ := gave
  have event := exec_lineProgramDone released .asExpected
  generalize s.lineProgramDone .asExpected = t at *
  have store : t.store = .ready := (congrArg State.store frame :).trans ready
  have lookup (k : Key) : t.lookup k = (takeImages s.directory (records.zip r.placed)).find? fun d => d.key == k := by
    rw [State.lookup, show t.directory = takeImages s.directory (records.zip r.placed) from (congrArg State.directory frame :)]
  have frees (g : Handle) : freesContext [r.job] g = decide (h = g) := by simp [freesContext, work]
  refine ⟨t.settle, event, ?_⟩
  rw [State.settle_of_idle store (congrArg State.engine frame :)]
  refine ⟨fun i a loc here there => ?keys, fun j others => ?others, ?mark, ?freed, fun g other => ?stays, ?holds, ?pool, ?lines, ?slots,
    (congrArg State.running frame :), (congrArg State.ops frame :), (congrArg State.queue frame :), (congrArg State.zones frame :), store,
    fun l => ?links⟩
  case keys =>
    have mem : (a.image .tagged r.generation, loc) ∈ records.zip r.placed := by
      refine List.mem_of_getElem? (i := i) (List.getElem?_zip_eq_some.mpr ⟨?_, there⟩)
      rw [List.getElem?_map, here]
      rfl
    have found := find?_takeImages_of_mem s.directory (zip_images_apart apart (Nat.le_of_eq full.symm)) mem
    rw [a.image_key, a.image_entryAt] at found
    exact (lookup a.key).trans (found.trans (by cases a.change <;> rfl))
  case others =>
    refine (lookup j).trans (find?_takeImages_of_other s.directory fun p mem => ?_)
    obtain ⟨a, inside, same⟩ := List.mem_map.mp (List.of_mem_zip mem).1
    rw [← same, a.image_key]
    exact others a inside
  case mark =>
    have marks_eq : t.marks = marks ++ [⟨r.generation, start, records.length⟩] := (congrArg State.marks frame :)
    change _ ∈ t.marks
    rw [marks_eq, count]
    exact List.mem_append_right _ (List.mem_singleton_self _)
  case freed => exact (contexts h).trans (if_pos (by rw [frees]; exact decide_eq_true rfl))
  case stays => exact (contexts g).trans (if_neg (by rw [frees]; simpa using Ne.symm other))
  case holds =>
    refine holds.trans (List.filter_congr fun p _ => ?_)
    cases p.2 with
    | context g => simp [outlives, q, frees, eq_comm]
    | job ticket => simp [outlives, q, Job.isSolo, work]
  case pool =>
    have units : (staged.map fun e => e.change.units) = staged.map fun e => match e.change with
        | .value bytes => (bytes.length + 15) / 16
        | .delete => 0 := List.map_congr_left fun e _ => by cases e.change <;> rfl
    have freed : (allHandles.map fun g => if freesContext [r.job] g then stagedUnits (s.context g).staged else 0).sum = stagedUnits staged := by
      simp only [frees, sum_units_single]
      rw [committing]
      rfl
    have none' : ([r.job].map Job.soloUnits).sum = 0 := by simp [Job.soloUnits, work]
    refine pool.trans ?_
    change s.poolFree + (allHandles.map fun g => if freesContext [r.job] g then stagedUnits (s.context g).staged else 0).sum
      + ([r.job].map Job.soloUnits).sum = _
    rw [freed, none', stagedUnits, units]
    rfl
  case lines => exact reservedLines.trans (by simp [q])
  case slots => exact slots.trans (by simp [q])
  case links =>
    have told : t.link l = (s.link l).toldSwitch l q records := by
      refine (links l).trans ?_
      rw [records_eq]
      cases l <;> rfl
    refine (?_ : _ = t.link l).trans (told.trans ?_)
    · cases l <;> rfl
    · rw [Framer.toldSwitch, Framer.toldOf, List.foldl_map]
      simp only [Staged.image_key, List.contains_iff_mem, Staged.image_is_tombstone, q, work]
      rfl

end Sys2Proof.Machine
end

section
/-! PROOFS. The third failure of an image (R86, R89, R90, R105, R109, R128, R129). -/

namespace Sys2Proof.Machine

section
variable {s u : State}

/-- What the third failure of an image leads to: the job of a host image ends, and the pass of a copy stops with the work that ran it. -/
def State.thirdFailure (s : State) : Writer → State
  | .host => match s.running with
    | some r => s.hostMedia r
    | none => s
  | .reclaim => s.copyMedia

theorem State.ladder_three (s : State) (w : Writer) : s.ladder w 3 = s.thirdFailure w := by
  cases w <;> rfl

/-! ### The store stops (R19, R86, R89) -/

/-- The images that the job in progress has programmed. -/
def State.placedImages (s : State) : List (Image × Loc) :=
  match s.running with
  | some r => (s.jobImages r.job.work r.generation).zip r.placed
  | none => []

/-- The jobs that end when the store stops for want of the medium: the one in progress and every queued one but a FORMAT. -/
def State.stoppedJobs (s : State) : List (Job × JobResult) :=
  s.running.toList.map (fun r => (r.job, .mediaFail))
    ++ (s.queue.filter (fun j => decide (j.work ≠ .format))).map (fun j => (j, .storeReadOnly))

/-- The store enters READ_ONLY with MEDIA and the job in progress, if there is one, ends with MEDIA_FAIL. -/
def State.mediaStop (s : State) : State :=
  match s.running with
  | some r => s.hostMedia r
  | none => { s.enterReadOnly .media with engine := .idle }

/-- The state in which the store has stopped, before the jobs give back what they held. -/
def State.mediaDropped (s : State) : State :=
  { (s.enterReadOnly .media).abandonPlaced s.placedImages with running := none, engine := .idle }

theorem State.enterReadOnly_eq (s : State) (cause : Cause) : s.enterReadOnly cause = { s with
    store := if s.store = .ready then .readOnly cause else s.store
    lf0 := (s.enterReadOnly cause).lf0, lf1 := (s.enterReadOnly cause).lf1, attn := (s.enterReadOnly cause).attn } := by
  rw [State.enterReadOnly]
  by_cases ready : s.store = .ready
  · rw [if_pos ready, if_pos ready]
    rfl
  · rw [if_neg ready, if_neg ready]

theorem State.enterReadOnly_link (s : State) (cause : Cause) (l : Link) : (s.enterReadOnly cause).link l =
    if s.store = .ready then (s.link l).offer (.storeState (.readOnly cause)) else s.link l := by
  rw [State.enterReadOnly]
  by_cases ready : s.store = .ready
  · rw [if_pos ready, if_pos ready, State.link_offerBoth]
    cases l <;> rfl
  · rw [if_neg ready, if_neg ready]

/-- What is dropped when the store stops changes sector records alone beside the store state and the links. -/
theorem State.mediaDropped_eq (s : State) : ∃ sectors, (∀ z : Sector, sectors[z] = { s.sectors[z] with
      pending := s.sectors[z].pending - ((s.placedImages.filter (fun p => decide (p.2.sector = z))).map (fun p => p.1.lines)).sum
      stale := s.sectors[z].stale + ((s.placedImages.filter (fun p => decide (p.2.sector = z))).map (fun p => p.1.lines)).sum }) ∧
    s.mediaDropped = { s with
      store := if s.store = .ready then .readOnly .media else s.store
      lf0 := (s.enterReadOnly .media).lf0, lf1 := (s.enterReadOnly .media).lf1, attn := (s.enterReadOnly .media).attn
      sectors := sectors, running := none, engine := .idle } := by
  refine ⟨((s.enterReadOnly .media).abandonPlaced s.placedImages).sectors, fun z => ?_, ?_⟩
  · rw [State.abandonPlaced_sector, s.enterReadOnly_eq]
  · rw [State.mediaDropped, State.abandonPlaced_frame]
    exact congrArg (fun t : State => { t with
      sectors := ((s.enterReadOnly .media).abandonPlaced s.placedImages).sectors, running := none, engine := .idle }) (s.enterReadOnly_eq .media)

theorem State.mediaDropped_store (s : State) : s.mediaDropped.store = if s.store = .ready then .readOnly .media else s.store := by
  obtain ⟨sectors, -, dropped⟩ := s.mediaDropped_eq
  exact (congrArg State.store dropped :)

/-- A store that is not READY enters READ_ONLY no more. -/
theorem State.checkGeneration_of_not_ready (other : s.store ≠ .ready) (g : Gen) : s.checkGeneration g = s := by
  rw [State.checkGeneration, State.enterReadOnly_of_not_ready other, ite_self]

/-- The images of a job depend on the contexts alone. -/
theorem State.jobImages_congr (same : u.context = s.context) (work : Work) (g : Gen) : u.jobImages work g = s.jobImages work g := by
  have records : u.recordImages work g = s.recordImages work g := by
    cases work with
    | commit h => rw [State.recordImages, State.recordImages, same]
    | _ => rfl
  rw [State.jobImages, State.jobImages, records]

/-- The end of the job in progress with MEDIA_FAIL. -/
theorem State.hostMedia_eq {r : Running} (run : s.running = some r) :
    s.hostMedia r = (s.mediaDropped.releaseJob r.job).offerDone r.job .mediaFail 0 := by
  have images : (s.enterReadOnly .media).jobImages r.job.work r.generation = s.jobImages r.job.work r.generation :=
    State.jobImages_congr (by rw [s.enterReadOnly_eq]; rfl) ..
  have placed : s.placedImages = (s.jobImages r.job.work r.generation).zip r.placed := by rw [State.placedImages, run]
  have ended : { ((s.enterReadOnly .media).abandonPlaced s.placedImages).releaseJob r.job with running := none, engine := .idle }
      = s.mediaDropped.releaseJob r.job := State.releaseJob_idle ..
  have store : ((s.mediaDropped.releaseJob r.job).offerDone r.job .mediaFail 0).store ≠ .ready := by
    have same : ((s.mediaDropped.releaseJob r.job).offerDone r.job .mediaFail 0).store = s.mediaDropped.store :=
      (congrArg State.store (State.ended_of_release s.mediaDropped r.job .mediaFail).gaveBack.frame :)
    rw [same, s.mediaDropped_store]
    by_cases ready : s.store = .ready
    · rw [if_pos ready]
      nofun
    · rw [if_neg ready]
      exact ready
  rw [State.hostMedia, State.endRunning]
  dsimp only
  rw [images, ← placed, ended, State.checkGeneration_of_not_ready store]

/-- The job in progress is the first that ends. -/
theorem State.mediaStop_ended (s : State) :
    State.Ended (s.running.toList.map fun r => (r.job, .mediaFail)) s.mediaDropped s.mediaStop := by
  rw [State.mediaStop]
  cases run : s.running with
  | some r =>
    dsimp only
    rw [State.hostMedia_eq run]
    exact s.mediaDropped.ended_of_release r.job .mediaFail
  | none =>
    have same : s.mediaDropped = { s.enterReadOnly .media with engine := .idle } := by
      have none' : (s.enterReadOnly .media).running = none := by rw [s.enterReadOnly_eq]; exact run
      rw [State.mediaDropped, State.placedImages, run]
      exact congrArg (fun r => { s.enterReadOnly .media with running := r, engine := .idle }) none'.symm
    rw [same]
    exact .nil _

theorem State.pauseIfHeld_of_idle (idle : s.engine = .idle) :
    s.pauseIfHeld = { s with engine := if s.supply = .low ∧ (s.queue ≠ [] ∨ s.pass ≠ none) then .paused else .idle } := by
  rw [State.pauseIfHeld]
  by_cases held : s.supply = .low ∧ (s.queue ≠ [] ∨ s.pass ≠ none)
  · rw [if_pos ⟨idle, held⟩, if_pos held]
  · rw [if_neg fun h => held h.2, if_neg held, ← idle]

/-- The jobs that stay queued when the others end. -/
def formatsOf (queue : List Job) : List Job := queue.filter fun j => decide (j.work = .format)

/-- The engine at rest with a queue: PAUSED in LOW where a job is queued or a pass suspended (R146). -/
def restingEngine (supply : Supply) (queue : List Job) (pass : Option Pass) : Engine :=
  if supply = .low ∧ (queue ≠ [] ∨ pass ≠ none) then .paused else .idle

/-- In READ_ONLY the close of an event ends the queued jobs, and the engine rests (R89, R146). -/
theorem State.settle_of_readOnly (readOnly : ∃ cause, s.store = .readOnly cause) (idle : s.engine = .idle) :
    ∃ t, State.Ended ((s.queue.filter (fun j => decide (j.work ≠ .format))).map fun j => (j, .storeReadOnly)) s t ∧
      s.settle = { t with queue := formatsOf s.queue, engine := restingEngine s.supply (formatsOf s.queue) s.pass } := by
  have ended := State.endQueued_ended s.queue s
  have flush : s.flushQueue = { s.endQueued s.queue with queue := formatsOf s.queue } := by
    obtain ⟨cause, store⟩ := readOnly
    have formats : s.queue.filter Job.isFormat = formatsOf s.queue := List.filter_congr fun j _ => j.isFormat_eq
    rw [State.flushQueue, store, formats]
  generalize s.endQueued s.queue = t at ended flush
  have frame := ended.gaveBack.frame
  refine ⟨t, ended, ?_⟩
  rw [State.settle, flush, State.pauseIfHeld_of_idle (s := { t with queue := formatsOf s.queue }) ((congrArg State.engine frame :).trans idle),
    restingEngine, ← show t.supply = s.supply from (congrArg State.supply frame :), ← show t.pass = s.pass from (congrArg State.pass frame :)]

/-- What the stop leaves: the jobs that end give back what they held, in order, and the rest stays. -/
theorem State.mediaStop_settle (stands : s.store = .ready ∨ ∃ cause, s.store = .readOnly cause) :
    ∃ t, State.Ended s.stoppedJobs s.mediaDropped t ∧
      s.mediaStop.settle = { t with queue := formatsOf s.queue, engine := restingEngine s.supply (formatsOf s.queue) s.pass } := by
  have first := s.mediaStop_ended
  obtain ⟨sectors, -, dropped⟩ := s.mediaDropped_eq
  have frame := first.gaveBack.frame
  rw [dropped] at frame
  have readOnly : ∃ cause, s.mediaStop.store = .readOnly cause := by
    rw [show s.mediaStop.store = if s.store = .ready then .readOnly .media else s.store from (congrArg State.store frame :)]
    rcases stands with ready | ⟨cause, store⟩
    · exact ⟨.media, if_pos ready⟩
    · exact ⟨cause, (if_neg (by rw [store]; nofun)).trans store⟩
  obtain ⟨t, ended, settled⟩ := State.settle_of_readOnly readOnly (congrArg State.engine frame :)
  have queue : s.mediaStop.queue = s.queue := (congrArg State.queue frame :)
  have supply : s.mediaStop.supply = s.supply := (congrArg State.supply frame :)
  have pass : s.mediaStop.pass = s.pass := (congrArg State.pass frame :)
  rw [queue, supply, pass] at settled
  rw [queue] at ended
  exact ⟨t, first.append ended, settled⟩

end

end Sys2Proof.Machine
end

section
/-! PROOFS. What the third failure of an image leaves (R86, R89, R105, R128, R129). -/

namespace Sys2Proof.Machine

/-! ### The state in which an image has failed -/

/-- A job in progress with the parts that a failing image leaves as they are. -/
def Running.core (r : Running) : Job × Gen × List Loc := (r.job, r.generation, r.placed)

/-- A pass that has stopped. -/
def Pass.stopped (p : Pass) : Pass := { p with running := false, copy := none }

/-- The pass after the third failure of a writer's image: that of a copy has stopped. -/
def State.passAfter (s : State) : Writer → Option Pass
  | .host => s.pass
  | .reclaim => s.pass.map Pass.stopped

/-- An image has failed with the array and the sector table so: what its writer writes has changed beside them. -/
structure State.Failed (s : State) (w : Writer) (array : CellArray) (sectors : Vector SectorRecord 32) (u : State) : Prop where
  frame : u = { s with array := array, sectors := sectors, ops := [], running := u.running, pass := u.pass }
  running : u.running.map Running.core = s.running.map Running.core
  pass : u.passAfter w = s.passAfter w
  writes : ∃ x, u.writing w = some x

section
variable {s u : State} {w : Writer} {array : CellArray} {sectors : Vector SectorRecord 32} {x : Writing}

theorem State.afterFailure_failed (writes : s.writing w = some x) : s.Failed w array sectors (s.afterFailure w x array sectors []) where
  frame := by cases w <;> rfl
  running := by
    cases w with
    | host =>
      obtain ⟨r, run, -⟩ := Option.bind_eq_some_iff.mp writes
      change (s.running.map _).map Running.core = _
      rw [run]
      rfl
    | reclaim => rfl
  pass := by
    cases w with
    | host => rfl
    | reclaim =>
      change (s.pass.map _).map Pass.stopped = s.pass.map Pass.stopped
      cases s.pass <;> rfl
  writes := ⟨_, State.afterFailure_writing writes⟩

/-- A stored state with other array, sectors and no operation fails nothing else. -/
theorem State.failed_of_frame (writes : s.writing w = some x) : s.Failed w array sectors { s with array := array, sectors := sectors, ops := [] } where
  frame := rfl
  running := rfl
  pass := by cases w <;> rfl
  writes := ⟨x, (State.writing_congr rfl rfl).trans writes⟩

/-- The state from which the store stops: the pass of a failed copy is kept and no longer runs (R105). -/
def State.beforeStop (s : State) : Writer → State
  | .host => s
  | .reclaim => s.keepPass

theorem State.Failed.beforeStop_eq (failed : s.Failed w array sectors u) : u.beforeStop w = { s with
    array := array, sectors := sectors, ops := [], running := u.running, pass := s.passAfter w } := by
  rw [← failed.pass]
  cases w with
  | host => exact failed.frame
  | reclaim => exact congrArg (fun t : State => { t with pass := u.passAfter .reclaim }) failed.frame

/-- With no mount in progress, or with a host image, the third failure stops the store. -/
theorem State.thirdFailure_eq_mediaStop (writes : ∃ x, u.writing w = some x) (unmounted : w = .host ∨ u.mount = none) :
    u.thirdFailure w = (u.beforeStop w).mediaStop := by
  cases w with
  | host =>
    obtain ⟨x, writes⟩ := writes
    obtain ⟨r, run, -⟩ := Option.bind_eq_some_iff.mp writes
    rw [State.thirdFailure, State.mediaStop, State.beforeStop, run]
  | reclaim =>
    have none' : u.keepPass.mount = none := unmounted.resolve_left nofun
    have same : (u.keepPass.enterReadOnly .media).running = u.keepPass.running := (congrArg State.running (u.keepPass.enterReadOnly_eq .media) :)
    rw [State.thirdFailure, State.copyMedia, State.stopWork, none', State.mediaStop, State.beforeStop]
    dsimp only
    rw [same]
    cases u.keepPass.running <;> rfl

theorem State.placedImages_of_core {t : State} (running : t.running.map Running.core = s.running.map Running.core) (same : t.context = s.context) :
    t.placedImages = s.placedImages := by
  rw [State.placedImages, State.placedImages]
  cases run : s.running with
  | none =>
    rw [run, Option.map_none, Option.map_eq_none_iff] at running
    rw [running]
  | some r =>
    rw [run, Option.map_some, Option.map_eq_some_iff] at running
    obtain ⟨q, run', core⟩ := running
    rw [Running.core, Running.core, Prod.mk.injEq, Prod.mk.injEq] at core
    obtain ⟨job, generation, placed⟩ := core
    rw [run']
    dsimp only
    rw [job, generation, placed, State.jobImages_congr same]

theorem State.stoppedJobs_of_core {t : State} (running : t.running.map Running.core = s.running.map Running.core) (queue : t.queue = s.queue) :
    t.stoppedJobs = s.stoppedJobs := by
  have jobs (v : State) : (v.running.toList.map fun r => (r.job, JobResult.mediaFail))
      = (v.running.map Running.core).toList.map fun c => (c.1, JobResult.mediaFail) := by
    cases v.running <;> rfl
  rw [State.stoppedJobs, State.stoppedJobs, queue, jobs t, jobs s, running]

end

end Sys2Proof.Machine
end

section
/-! PROOFS. The third failure of an image, in the store and in mount's sweep. -/

namespace Sys2Proof.Machine

/-! ### The end of mount (R128, R129) -/

/-- A record that mount's end makes FULL where it still reads as a victim. -/
def SectorRecord.closed (r : SectorRecord) : SectorRecord :=
  match r.state with
  | .victim v => { r with state := .full v }
  | _ => r

theorem SectorRecord.closed_closed (r : SectorRecord) : r.closed.closed = r.closed := by
  obtain ⟨state, eraseCount, live, pending, stale⟩ := r
  cases state <;> rfl

theorem SectorRecord.closed_nonRetired (r : SectorRecord) : r.closed.nonRetired = r.nonRetired := by
  obtain ⟨state, eraseCount, live, pending, stale⟩ := r
  cases state <;> rfl

section
variable {s u : State} {w : Writer} {array : CellArray} {sectors : Vector SectorRecord 32} {x : Writing}

theorem State.victimsToFull_sector (z : Sector) : ∀ (xs : List Sector) (s : State),
    (s.victimsToFull xs).sectors[z] = if z ∈ xs then s.sectors[z].closed else s.sectors[z]
  | [], s => by rw [State.victimsToFull, if_neg List.not_mem_nil]
  | x :: rest, s => by
    have first : (s.modSector x SectorRecord.closed).sectors[z] = if z = x then s.sectors[z].closed else s.sectors[z] := by
      rw [State.sectors_modSector]
      by_cases same : z = x
      · rw [if_pos same, if_pos same, same]
      · rw [if_neg same, if_neg same]
    have step : s.victimsToFull (x :: rest) = (s.modSector x SectorRecord.closed).victimsToFull rest := rfl
    rw [step, State.victimsToFull_sector z rest, first]
    by_cases same : z = x
    · rw [if_pos same, if_pos (List.mem_cons.mpr (.inl same)), SectorRecord.closed_closed, ite_self]
    · rw [if_neg same]
      simp [same]

theorem MountRecord.meet_cause (m : MountRecord) (c : Cause) : (m.meet c).cause = some (m.cause.getD c) := by
  rw [MountRecord.meet]
  cases cause : m.cause with
  | none => rfl
  | some d => exact cause

theorem MountRecord.meet_victims (m : MountRecord) (c : Cause) : (m.meet c).victims = m.victims := by
  rw [MountRecord.meet]
  cases m.cause <;> rfl

/-- Mount ends in READ_ONLY with no job queued (R128, R129). -/
theorem State.mountEnd_settle {m : MountRecord} {cause : Cause} (met : m.cause = some cause) (empty : s.queue = []) : ∃ table,
    (∀ z : Sector, table[z] = if z ∈ m.victims then s.sectors[z].closed else s.sectors[z]) ∧
    (s.mountEnd m).settle = { ({ s with store := .readOnly cause, mount := none, sectors := table } : State).offerBoth
      (.mounted (.readOnly cause) s.liveKeyCount s.generationNext (table.toList.countP fun r => !r.nonRetired) s.epoch) with
      engine := restingEngine s.supply s.queue s.pass } := by
  refine ⟨(s.victimsToFull m.victims).sectors, fun z => State.victimsToFull_sector z m.victims s, ?_⟩
  have frame := s.victimsToFull_frame m.victims
  generalize (s.victimsToFull m.victims).sectors = table at frame
  let left : State := { s with store := .readOnly cause, mount := none, sectors := table, engine := .idle }
  have ends : s.mountEnd m = left.offerBoth
      (.mounted (.readOnly cause) s.liveKeyCount s.generationNext (table.toList.countP fun r => !r.nonRetired) s.epoch) := by
    rw [State.mountEnd, met, frame]
    rfl
  have queue : (s.mountEnd m).queue = [] := by
    rw [ends]
    exact empty
  rw [State.settle, State.flushQueue_of_formats fun _ _ j mem => by rw [queue] at mem; cases mem]
  rw [State.pauseIfHeld_of_idle (by rw [ends]; rfl), ends]
  rfl

/-- The RETIRED sectors are counted by whether each record is retired. -/
theorem countP_nonRetired_congr {a b : Vector SectorRecord 32} (same : ∀ z : Sector, a[z].nonRetired = b[z].nonRetired) (p : Bool → Bool) :
    a.toList.countP (fun r => p r.nonRetired) = b.toList.countP fun r => p r.nonRetired := by
  rw [toList_eq_map_finRange, toList_eq_map_finRange, List.countP_map, List.countP_map]
  refine List.countP_congr fun z _ => ?_
  change p a[z].nonRetired = true ↔ p b[z].nonRetired = true
  rw [same]

end

/-- A state with the figures of another that a stop changes. -/
def State.withItsFigures (s v : State) : State := { v with
  store := s.store, running := s.running, queue := s.queue, engine := s.engine, pass := s.pass, array := s.array
  ops := s.ops, sectors := s.sectors, reservedLines := s.reservedLines, slotReservations := s.slotReservations
  contexts := s.contexts, holds := s.holds, poolFree := s.poolFree, lf0 := s.lf0, lf1 := s.lf1, attn := s.attn }

/-- Settles O32: the store stops, or mount ends, from the state in which the image has failed. -/
theorem thirdFailureStopsTheStore : Obligations.ThirdFailureStopsTheStore := by
  intro s w x released writes lines ended frees soloUnits solo placed stopped rests stops sweepEnds outcome
  have outcomes {readback : LineReadback} {array : CellArray} {sectors : Vector SectorRecord 32} {u : State}
      (failed : s.Failed w array sectors u) (done : s.lineProgramDone readback = u.thirdFailure w) : outcome readback array sectors := by
    refine ⟨fun stands unmounted => ⟨_, exec_lineProgramDone released readback, ?halts⟩,
      fun m copies mounting mount empty => ⟨_, exec_lineProgramDone released readback, ?ends⟩⟩
    case halts =>
      have y_eq := failed.beforeStop_eq
      have stop := State.thirdFailure_eq_mediaStop failed.writes (unmounted.imp_right ((congrArg State.mount failed.frame :).trans))
      have core := failed.running
      have blind : (u.beforeStop w).running = u.running := (congrArg State.running y_eq :)
      rw [← blind] at core
      generalize u.beforeStop w = y at y_eq stop core
      have store : y.store = s.store := (congrArg State.store y_eq :)
      have context : y.context = s.context := (congrArg State.context y_eq :)
      have jobs : y.stoppedJobs = s.stoppedJobs := State.stoppedJobs_of_core core (congrArg State.queue y_eq :)
      have images : y.placedImages = s.placedImages := State.placedImages_of_core core context
      obtain ⟨t, gone, settled⟩ := State.mediaStop_settle (s := y) (by rw [store]; exact stands)
      obtain ⟨table, record, dropped⟩ := y.mediaDropped_eq
      rw [done, stop, settled]
      rw [jobs, dropped] at gone
      obtain ⟨⟨reserved, slots, contexts, holds, pool, frame⟩, links⟩ := gone
      have queue : y.queue = s.queue := (congrArg State.queue y_eq :)
      have supply : y.supply = s.supply := (congrArg State.supply y_eq :)
      have freed (h : Handle) : freesContext (s.stoppedJobs.map (·.1)) h = frees h := List.any_map
      have pass : y.pass = stopped := (congrArg State.pass y_eq :)
      refine ⟨?store, (congrArg State.running frame :), congrArg formatsOf queue, ?engine, (congrArg State.pass frame :).trans pass,
        (congrArg State.array frame :).trans (congrArg State.array y_eq :), (congrArg State.ops frame :).trans (congrArg State.ops y_eq :),
        fun z => ?sectors, ?lines, ?slots, fun h => ?contexts, ?holds, ?pool, fun l => ?links, ?frame⟩
      case store =>
        refine (congrArg State.store frame :).trans ?_
        dsimp only
        rw [store]
      case engine =>
        change restingEngine y.supply (formatsOf y.queue) y.pass = restingEngine s.supply (formatsOf y.queue) stopped
        rw [supply, pass]
      case sectors =>
        refine (congrArg (fun v : Vector SectorRecord 32 => v[z]) (congrArg State.sectors frame :)).trans ((record z).trans ?_)
        rw [images, show y.sectors = sectors from (congrArg State.sectors y_eq :)]
        rfl
      case lines =>
        refine reserved.trans ?_
        rw [List.map_map]
        exact congrArg (· - _) (congrArg State.reservedLines y_eq :)
      case slots =>
        refine slots.trans ?_
        rw [List.map_map]
        exact congrArg (· - _) (congrArg State.slotReservations y_eq :)
      case contexts =>
        refine (contexts h).trans ?_
        rw [freed]
        exact congrArg (fun c : Context => if frees h then Context.free else c) (congrFun context h)
      case holds =>
        rw [show y.holds = s.holds from (congrArg State.holds y_eq :)] at holds
        refine holds.trans (List.filter_congr fun p _ => ?_)
        cases p.2 with
        | context h => exact congrArg (!·) (freed h)
        | job ticket => exact congrArg (!·) List.any_map
      case pool =>
        refine pool.trans ?_
        rw [List.map_map, show y.poolFree = s.poolFree from (congrArg State.poolFree y_eq :)]
        refine congrArg (fun n => s.poolFree + n + _) (congrArg List.sum (List.map_congr_left fun h _ => ?_))
        rw [freed]
        exact congrArg (fun c : Context => if frees h then stagedUnits c.staged else 0) (congrFun context h)
      case links =>
        refine (links l).trans (congrArg (List.foldl _ · _) ?_)
        have told := y.enterReadOnly_link .media l
        rw [store, show y.link l = s.link l from (congrArg (fun v : State => v.link l) y_eq :)] at told
        refine Eq.trans ?_ told
        cases l <;> rfl
      case frame =>
        exact (congrArg s.withItsFigures frame :).trans (congrArg s.withItsFigures y_eq :)
    case ends =>
      have y_eq := failed.beforeStop_eq
      have stop : u.thirdFailure w = (u.beforeStop w).mountEnd (m.meet .media) := by
        have here : u.keepPass.mount = some m := (congrArg State.mount failed.frame :).trans mount
        rw [copies, State.thirdFailure, State.copyMedia, State.stopWork, here]
        rfl
      generalize u.beforeStop w = y at y_eq stop
      obtain ⟨table, record, settled⟩ := State.mountEnd_settle (m.meet_cause .media) ((congrArg State.queue y_eq :).trans empty)
      rw [m.meet_victims] at record
      have record' (z : Sector) : table[z] = match sectors[z].state with
          | .victim v => if z ∈ m.victims then { sectors[z] with state := .full v } else sectors[z]
          | _ => sectors[z] := by
        rw [record, show y.sectors = sectors from (congrArg State.sectors y_eq :)]
        by_cases inside : z ∈ m.victims
        · rw [if_pos inside, SectorRecord.closed]
          cases sectors[z].state with
          | victim v => exact (if_pos inside).symm
          | _ => rfl
        · rw [if_neg inside]
          cases sectors[z].state with
          | victim v => exact (if_neg inside).symm
          | _ => rfl
      have retired : (table.toList.countP fun r => !r.nonRetired) = sectors.toList.countP fun r => !r.nonRetired := by
        refine countP_nonRetired_congr (fun z => ?_) (!·)
        rw [record, show y.sectors = sectors from (congrArg State.sectors y_eq :)]
        split
        · exact sectors[z].closed_nonRetired
        · rfl
      rw [done, stop, settled, retired, y_eq]
      refine ⟨rfl, rfl, ?_, rfl, rfl, rfl, record', rfl, rfl, rfl, rfl, fun l => ?_⟩
      · change restingEngine s.supply s.queue stopped = restingEngine s.supply [] stopped
        rw [empty]
      · cases l <;> rfl
  constructor
  · intro start n pattern expected bits ops differs later twice
    have failed := State.afterFailure_failed (s := s) (w := w) (x := x)
      (array := s.array.writeLine ⟨start.sector, start.line + n⟩ (s.array.readLine ⟨start.sector, start.line + n⟩ &&& bits.setWidth 128))
      (sectors := s.failedSectors start.sector lines) writes
    refine outcomes failed ((State.lineProgramDone_of_failed ops differs).trans ?_)
    rw [State.lineFailed_eq writes, if_neg (by omega), State.climb_of_writing (State.afterFailure_writing writes), twice, ← State.ladder_three]
  · intro z v c pattern expected readback ops opened third
    let array : CellArray := s.array.writeHeader z (contentAfter readback s.array.headers[z] expected)
    have failed := State.failed_of_frame (s := s) (w := w) (x := x) (array := array)
      (sectors := s.sectors.set z { s.sectors[z] with state := .full v, stale := 255 - s.sectors[z].live - s.sectors[z].pending }) writes
    refine outcomes failed ((State.lineProgramDone_of_header_only readback ops).trans ?_)
    have closing := State.markFull_of_opened (s := s.popOp [] array) (z := z) opened
    refine (congrArg (State.climb · w) closing).trans ?_
    let closed : State := { s with array := array, sectors := s.sectors.set z { s.sectors[z] with
      state := .full v, stale := 255 - s.sectors[z].live - s.sectors[z].pending }, ops := [] }
    have climbs : closed.climb w = closed.ladder w x.failures := State.climb_of_writing ((State.writing_congr rfl rfl).trans writes)
    rw [third, State.ladder_three] at climbs
    exact climbs

end Sys2Proof.Machine
end

section
/-! PROOFS. The sweep of mount goes on, is held, or ends (R124, R125, R127, R129, R149). -/

namespace Sys2Proof.Machine

section
variable {s : State} {m : MountRecord} {y : Sector} {more : List Sector}

theorem State.sweepNext_of_erase (normal : s.supply = .normal) (erase : m.eraseList = y :: more) :
    s.sweepNext m = (s.setMount { m with eraseList := more }).request (.erase y .sweep) := by
  rw [State.sweepNext, erase]
  exact if_neg (by rw [normal]; nofun)

theorem State.sweepNext_of_close (normal : s.supply = .normal) (erase : m.eraseList = []) (close : m.closeList = y :: more) :
    s.sweepNext m = (s.setMount { m with closeList := more }).requestFull y .closeSwept := by
  rw [State.sweepNext, erase, close]
  exact if_neg (by rw [normal]; nofun)

/-- In LOW supply the sweep is held while it has a sector left (R149). -/
theorem State.sweepNext_of_low (low : s.supply = .low) (left : m.eraseList ≠ [] ∨ m.closeList ≠ [] ∨ m.victims ≠ []) :
    s.sweepNext m = s.holdSweep := by
  rw [State.sweepNext]
  cases erase : m.eraseList with
  | cons x rest => exact if_pos low
  | nil =>
    cases close : m.closeList with
    | cons x rest => exact if_pos low
    | nil =>
      cases victims : m.victims with
      | cons x rest => exact if_pos low
      | nil => rcases left with h | h | h <;> contradiction

/-- With nothing left and a sector ERASED mount ends (R127, R129). -/
theorem State.sweepNext_of_done (erased : s.hasErased = true) (erase : m.eraseList = []) (close : m.closeList = []) (victims : m.victims = []) :
    s.sweepNext m = s.mountEnd m := by
  rw [State.sweepNext, erase, close, victims]
  exact if_pos erased

theorem State.hasErased_of_erased (erased : s.sectors[y].state = .erased) : s.hasErased = true := by
  have some' : s.erasedSectors ≠ [] := List.ne_nil_of_mem ((s.mem_erasedSectors y).mpr erased)
  rw [State.hasErased]
  simpa using some'

theorem State.sweepOn_of_mount (mount : s.mount = some m) : s.sweepOn = ({ s with engine := .mounting } : State).sweepNext m := by
  rw [State.sweepOn]
  split
  · next n here =>
    rw [mount] at here
    cases here
    rfl
  · next none' =>
    rw [mount] at none'
    cases none'

/-- The store state that mount ends in, by its figures once resolve has ended (R17, R129). -/
theorem State.mountedStore_eq (resolved : s.unresolved = false) (unreserved : s.reservedLines = 0) (cause : Option Cause) :
    s.mountedStore cause = match cause with
      | some cause => .readOnly cause
      | none => if s.nonRetiredCount < 4 ∨ capacityOf s.nonRetiredCount < s.liveLines then .readOnly .capacity else .ready := by
  have fails : s.capacityFails = true ↔ s.nonRetiredCount < 4 ∨ capacityOf s.nonRetiredCount < s.liveLines := by
    rw [State.capacityFails, State.liveCapacity, resolved, unreserved, Bool.or_eq_true, decide_eq_true_iff, decide_eq_true_iff]
    exact Iff.rfl
  cases cause with
  | some cause => rfl
  | none => exact ite_congr (propext fails) (fun _ => rfl) fun _ => rfl

/-- Mount ends with no victim left, no job queued and no pass. -/
theorem State.mountEnd_settle_of_done (victims : m.victims = []) (empty : s.queue = []) (none' : s.pass = none) :
    (s.mountEnd m).settle = s.leaveMounting (s.mountedStore m.cause) := by
  have ends : s.mountEnd m = s.leaveMounting (s.mountedStore m.cause) := by rw [State.mountEnd, victims]; rfl
  have queue : (s.leaveMounting (s.mountedStore m.cause)).queue = [] := empty
  have pass : (s.leaveMounting (s.mountedStore m.cause)).pass = none := none'
  rw [ends, State.settle, State.flushQueue_of_formats fun _ _ j mem => by rw [queue] at mem; cases mem]
  rw [State.pauseIfHeld, if_neg]
  rw [queue, pass]
  exact fun ⟨_, _, held⟩ => held.elim (fun other => other rfl) fun other => other rfl

/-- A prepared block of the sweep passes: the sector is ERASED and the sweep goes on. -/
theorem State.lineProgramDone_of_swept {x : Sector} {count : Word32} {pattern expected : HeaderLine}
    (ops : s.ops = [.header x (.preparedBlock .sweep count) pattern expected]) (mount : s.mount = some m) :
    s.lineProgramDone .asExpected = ({ s with
      array := { s.array with headers := s.array.headers.set x expected }
      sectors := s.sectors.set x ⟨.erased, count, 0, 0, 0⟩
      ops := [], engine := .mounting } : State).sweepNext m := by
  rw [State.lineProgramDone_of_header_passed ops]
  change ((s.popOp [] (s.array.writeHeader x expected)).markErased x count).sweepOn = _
  exact State.sweepOn_of_mount mount

end

/-- Settles O24: by what the sweep has left. -/
theorem sweepGoesOnAndEnds : Obligations.SweepGoesOnAndEnds := by
  intro s x count pattern expected m released mounting ops mount phase empty none' free unreserved prepared
  have swept := State.lineProgramDone_of_swept ops mount
  let t : State := { prepared with ops := [], engine := .mounting }
  have goes {u : State} (next : t.sweepNext m = u) (engaged : u.engine ≠ .idle) (store : u.store = .mounting) :
      exec (.lineProgramDone .asExpected) s = .next u :=
    exec_lineProgramDone_engaged released (swept.trans next) engaged fun cause readOnly => by
      rw [store] at readOnly
      cases readOnly
  refine ⟨fun y more normal erase => ?_, fun y more normal erase close => ?_, fun low left => ?_, fun erase close victims => ?_⟩
  · exact goes (State.sweepNext_of_erase (s := t) normal erase) nofun mounting
  · exact goes (State.sweepNext_of_close (s := t) normal erase close) nofun mounting
  · exact goes (State.sweepNext_of_low (s := t) low left) nofun mounting
  · have erased : t.hasErased = true := State.hasErased_of_erased (y := x) (by
      change (s.sectors.set x ⟨.erased, count, 0, 0, 0⟩)[x].state = _
      rw [getElem_set_sector, if_pos rfl])
    have resolved : t.unresolved = false := by
      rw [State.unresolved, show t.mount = some m from mount]
      dsimp only
      rw [phase]
    have ends : (s.lineProgramDone .asExpected).settle = t.leaveMounting (t.mountedStore m.cause) := by
      rw [swept]
      refine (congrArg State.settle (State.sweepNext_of_done (s := t) erased erase close victims)).trans ?_
      exact State.mountEnd_settle_of_done victims empty none'
    refine ⟨_, exec_lineProgramDone released _, ?_⟩
    rw [ends]
    refine ⟨State.mountedStore_eq resolved unreserved m.cause, rfl, rfl, rfl, rfl, rfl, rfl, fun l => ?_⟩
    cases l <;> rfl

end Sys2Proof.Machine
end

section
/-! PROOFS. The receive machine over the bytes of a frame, and what a link sends meanwhile (R152 to R155, R157). -/

namespace Sys2Proof.Machine

/-! ### Bytes that move the receive machine alone -/

/-- Bytes that take the receive machine from one state to another and change nothing else of a framer. -/
def movesRx : List Byte → Rx → Rx → Prop
  | [], r, q => r = q
  | b :: rest, r, q => ∃ next, (∀ f : Framer, f.rx = r → f.takeByte b = { f with rx := next }) ∧ movesRx rest next q

theorem movesRx_append {a b : List Byte} {r p q : Rx} (first : movesRx a r p) (second : movesRx b p q) : movesRx (a ++ b) r q := by
  induction a generalizing r with
  | nil =>
    obtain rfl := first
    exact second
  | cons c rest ih =>
    obtain ⟨next, takes, more⟩ := first
    exact ⟨next, takes, ih more⟩

theorem movesRx_single {b : Byte} {r q : Rx} (takes : ∀ f : Framer, f.rx = r → f.takeByte b = { f with rx := q }) : movesRx [b] r q :=
  ⟨q, takes, rfl⟩

/-- In HUNT bytes without a SYNC move nothing (R153). -/
theorem movesRx_fill : ∀ {fill : List Byte}, (∀ b ∈ fill, b ≠ 0xA5) → movesRx fill .hunt .hunt
  | [], _ => rfl
  | b :: rest, none' => ⟨.hunt, fun f hunt => by
      rw [Framer.takeByte_hunt hunt (none' b List.mem_cons_self), ← hunt], movesRx_fill fun c mem => none' c (List.mem_cons_of_mem b mem)⟩

section
variable {f : Framer} {r q : Rx} {bs : List Byte}

theorem foldl_takeByte_of_moves (moves : movesRx bs r q) (here : f.rx = r) : bs.foldl Framer.takeByte f = { f with rx := q } := by
  induction bs generalizing f r with
  | nil =>
    obtain rfl := moves
    rw [← here]
    rfl
  | cons b rest ih =>
    obtain ⟨next, takes, more⟩ := moves
    rw [List.foldl_cons, takes f here, ih more rfl]

/-- On Link 0 the bytes that go out meanwhile are those that would go out alone. -/
theorem foldl_clock_of_moves (moves : movesRx bs r q) (here : f.rx = r) :
    bs.foldl Framer.clock f = { f.sendBytes .link0 bs.length with rx := q } := by
  induction bs generalizing f r with
  | nil =>
    obtain rfl := moves
    rw [← here]
    rfl
  | cons b rest ih =>
    obtain ⟨next, takes, more⟩ := moves
    have still : (f.sendByte .link0).rx = r := (f.sendByte_frame .link0).1.trans here
    rw [List.foldl_cons, Framer.clock, takes _ still, ih more rfl, Framer.sendBytes_withRx]
    rfl

/-- A link whose bytes in move the receive machine alone sends what it would send without them. -/
theorem Framer.traffic_of_moves {t : Traffic} (moves : movesRx t.rx r q) (here : f.rx = r) : f.traffic t = { f.sends t with rx := q } := by
  cases t with
  | spi rx => exact foldl_clock_of_moves (f := { f with wire := [] }) moves here
  | uart rx tx => exact foldl_takeByte_of_moves moves ((Framer.sendBytes_frame { f with wire := [] } .link1 tx).1.trans here)

/-- The last byte in is taken after what the link sends. -/
theorem Framer.traffic_of_last {t : Traffic} {b : Byte} (is : t.rx = bs ++ [b]) (moves : movesRx bs r q) (here : f.rx = r) :
    f.traffic t = ({ f.sends t with rx := q } : Framer).takeByte b := by
  cases t with
  | spi rx =>
    obtain rfl : rx = bs ++ [b] := is
    rw [Framer.traffic, List.foldl_append, foldl_clock_of_moves (f := { f with wire := [] }) moves here, List.foldl_cons, List.foldl_nil,
      Framer.clock, Framer.sendByte_withRx, ← Framer.sendBytes_succ]
    change _ = ({ Framer.sendBytes .link0 (bs ++ [b]).length { f with wire := [] } with rx := q } : Framer).takeByte b
    rw [List.length_append]
    rfl
  | uart rx tx =>
    obtain rfl : rx = bs ++ [b] := is
    have still : (f.sends (.uart (bs ++ [b]) tx)).rx = r := (Framer.sendBytes_frame { f with wire := [] } .link1 tx).1.trans here
    rw [Framer.traffic, List.foldl_append, foldl_takeByte_of_moves moves still]
    rfl

end

/-! ### The bytes of a frame (R152, R153) -/

section
variable (frame : Frame)

/-- The bytes of a frame, one after another. -/
theorem Frame.bytes_eq : frame.bytes = 0xA5 :: (BitVec.ofNat 16 frame.payload.length).extractLsb' 8 8
    :: (BitVec.ofNat 16 frame.payload.length).extractLsb' 0 8 :: frame.tag :: frame.typ
    :: (frame.payload ++ [(crc16 frame.checked).extractLsb' 8 8, (crc16 frame.checked).extractLsb' 0 8]) := by
  simp [Frame.bytes, Frame.checked, be16Nat, be16, Config.sync]

theorem Frame.bytes_length : frame.bytes.length = frame.payload.length + 7 := by
  rw [frame.bytes_eq]
  simp

theorem Frame.checked_eq : frame.checked = (BitVec.ofNat 16 frame.payload.length).extractLsb' 8 8
    :: (BitVec.ofNat 16 frame.payload.length).extractLsb' 0 8 :: frame.tag :: frame.typ :: frame.payload := by
  simp [Frame.checked, be16Nat, be16]

/-- A byte of a frame's payload. -/
theorem Frame.bytes_payload {n : Nat} (from' : 5 ≤ n) (within : n < frame.payload.length + 5) :
    frame.bytes[n]? = frame.payload[n - 5]? := by
  rw [frame.bytes_eq]
  obtain ⟨k, rfl⟩ := Nat.exists_eq_add_of_le' from'
  simp only [List.getElem?_cons_succ, Nat.add_sub_cancel]
  exact List.getElem?_append_left (by omega)

theorem Frame.bytes_check : frame.bytes[frame.payload.length + 5]? = some ((crc16 frame.checked).extractLsb' 8 8) := by
  rw [frame.bytes_eq]
  simp

theorem Frame.bytes_last : frame.bytes = frame.bytes.take (frame.payload.length + 6) ++ [(crc16 frame.checked).extractLsb' 0 8] := by
  have here : frame.bytes[frame.payload.length + 6]? = some ((crc16 frame.checked).extractLsb' 0 8) := by
    rw [frame.bytes_eq]
    simp
  have whole : frame.bytes.take (frame.payload.length + 6 + 1) = frame.bytes := List.take_of_length_le (Nat.le_of_eq frame.bytes_length)
  rw [List.take_add_one, here] at whole
  exact whole.symm

variable {frame}

theorem word16_length (short : frame.payload.length ≤ 272) : (word16 ((BitVec.ofNat 16 frame.payload.length).extractLsb' 8 8)
    ((BitVec.ofNat 16 frame.payload.length).extractLsb' 0 8)).toNat = frame.payload.length := by
  rw [word16_extract, BitVec.toNat_ofNat]
  exact Nat.mod_eq_of_lt (by omega)

theorem Frame.gathered_header {n : Nat} (from' : 1 ≤ n) (within : n ≤ 4) : frame.gathered n = .header (frame.checked.take (n - 1)) := by
  rw [Frame.gathered, if_neg (by omega), if_pos within]

theorem Frame.gathered_body {n : Nat} (from' : 5 ≤ n) (within : n < frame.payload.length + 5) :
    frame.gathered n = .body frame.payload.length frame.tag frame.typ (frame.payload.take (n - 5)) := by
  rw [Frame.gathered, if_neg (by omega), if_neg (by omega), if_pos within]

theorem Frame.gathered_check : frame.gathered (frame.payload.length + 5)
    = .check frame.payload.length frame.tag frame.typ frame.payload none := by
  rw [Frame.gathered, if_neg (by omega), if_neg (by omega), if_neg (Nat.lt_irrefl _), if_pos rfl]

theorem Frame.gathered_last : frame.gathered (frame.payload.length + 6)
    = .check frame.payload.length frame.tag frame.typ frame.payload (some ((crc16 frame.checked).extractLsb' 8 8)) := by
  rw [Frame.gathered, if_neg (by omega), if_neg (by omega), if_neg (by omega), if_neg (by omega)]

/-- After the TYPE byte the machine gathers the payload, or waits for the CHECK of an empty one. -/
theorem Frame.gathered_typed : frame.gathered 5 = if frame.payload.length = 0 then .check 0 frame.tag frame.typ [] none
    else .body frame.payload.length frame.tag frame.typ [] := by
  by_cases empty : frame.payload.length = 0
  · have check := Frame.gathered_check (frame := frame)
    rw [empty, List.length_eq_zero_iff.mp empty] at check
    rw [if_pos empty]
    exact check
  · rw [if_neg empty]
    exact Frame.gathered_body (Nat.le_refl _) (by omega)

/-- Each byte of a frame's LENGTH, TAG and TYPE moves the receive machine alone, a LENGTH above 272 apart. -/
theorem takeByte_of_head (short : frame.payload.length ≤ 272) {n : Nat} (head : n < 5) {b : Byte} (here : frame.bytes[n]? = some b)
    {f : Framer} (state : f.rx = frame.gathered n) : f.takeByte b = { f with rx := frame.gathered (n + 1) } := by
  have sizes := word16_length short
  rw [frame.bytes_eq] at here
  rw [Framer.takeByte, state]
  match n, head with
  | 0, _ =>
    obtain rfl := Option.some.inj here
    rfl
  | 1, _ =>
    obtain rfl := Option.some.inj here
    rw [Frame.gathered_header (Nat.le_refl _) (by omega), Frame.gathered_header (by omega) (by omega), frame.checked_eq]
    rfl
  | 2, _ =>
    obtain rfl := Option.some.inj here
    rw [Frame.gathered_header (by omega) (by omega), Frame.gathered_header (by omega) (by omega), frame.checked_eq]
    exact if_neg (by rw [sizes, Config.maxLength]; omega)
  | 3, _ =>
    obtain rfl := Option.some.inj here
    rw [Frame.gathered_header (by omega) (by omega), Frame.gathered_header (by omega) (by omega), frame.checked_eq]
    rfl
  | 4, _ =>
    obtain rfl := Option.some.inj here
    rw [Frame.gathered_header (by omega) (by omega), Frame.gathered_typed, frame.checked_eq]
    change (if (word16 _ _).toNat = 0 then _ else _) = _
    rw [sizes]
    by_cases empty : frame.payload.length = 0
    · rw [if_pos empty, if_pos empty]
    · rw [if_neg empty, if_neg empty]

/-- Each byte of a frame's payload moves the receive machine alone. -/
theorem takeByte_of_payload {n : Nat} (from' : 5 ≤ n) (within : n < frame.payload.length + 5) {b : Byte} (here : frame.bytes[n]? = some b)
    {f : Framer} (state : f.rx = frame.gathered n) : f.takeByte b = { f with rx := frame.gathered (n + 1) } := by
  rw [frame.bytes_payload from' within] at here
  have more : frame.payload.take (n - 5) ++ [b] = frame.payload.take (n + 1 - 5) := by
    rw [show n + 1 - 5 = n - 5 + 1 by omega, List.take_add_one, here]
    rfl
  have size : (frame.payload.take (n + 1 - 5)).length = n - 4 := by
    rw [List.length_take]
    omega
  rw [Framer.takeByte, state, Frame.gathered_body from' within]
  dsimp only
  rw [more, size]
  by_cases last : n + 1 = frame.payload.length + 5
  · rw [if_neg (by omega), last, Frame.gathered_check, List.take_of_length_le (by omega)]
  · rw [if_pos (by omega), Frame.gathered_body (by omega) (by omega)]

/-- Each byte of a frame but the last moves the receive machine alone (R153). -/
theorem movesRx_byte (short : frame.payload.length ≤ 272) {n : Nat} {b : Byte} (here : frame.bytes[n]? = some b)
    (within : n < frame.payload.length + 6) : movesRx [b] (frame.gathered n) (frame.gathered (n + 1)) := by
  refine movesRx_single fun f state => ?_
  by_cases head : n < 5
  · exact takeByte_of_head short head here state
  by_cases body : n < frame.payload.length + 5
  · exact takeByte_of_payload (by omega) body here state
  · obtain rfl : n = frame.payload.length + 5 := by omega
    rw [Framer.takeByte, state, Frame.gathered_check, Frame.gathered_last, ← Option.some.inj (frame.bytes_check.symm.trans here)]

/-- The bytes of a frame from one place to another, the last apart, take the machine from what it holds before to what it holds after. -/
theorem movesRx_gathered (short : frame.payload.length ≤ 272) {n m : Nat} (ordered : n ≤ m) (within : m < frame.payload.length + 7) :
    movesRx ((frame.bytes.take m).drop n) (frame.gathered n) (frame.gathered m) := by
  induction ordered with
  | refl => rw [List.drop_eq_nil_of_le (List.length_take_le ..)]; rfl
  | @step m ordered ih =>
    replace ordered : n ≤ m := ordered
    have here : frame.bytes[m]? = some (frame.bytes[m]'(by rw [frame.bytes_length]; omega)) := List.getElem?_eq_getElem _
    have cut : (frame.bytes.take (m + 1)).drop n = (frame.bytes.take m).drop n ++ [frame.bytes[m]'(by rw [frame.bytes_length]; omega)] := by
      rw [List.take_add_one, here, List.drop_append_of_le_length (by rw [List.length_take, frame.bytes_length]; omega)]
      rfl
    rw [cut]
    exact movesRx_append (ih (by omega)) (movesRx_byte short here (by omega))

end

end Sys2Proof.Machine
end

section
/-! PROOFS. Frames received, given up and cut (R153, R154, R157, R158). -/

namespace Sys2Proof.Machine

/-! ### What sending leaves of a framer -/

/-- A framer with the outbound side of another: its queue, what admits notices to it, and the record of its pins. -/
def Framer.withOutbound (f g : Framer) : Framer := { g with
  out := f.out, backlog := f.backlog, sequence := f.sequence, lost := f.lost, sent := f.sent, wire := f.wire }

section
variable {f : Framer}

theorem Framer.takeFrom_outbound (f : Framer) (waiting : List Notice) : f.withOutbound (f.takeFrom waiting) = f := by
  induction waiting generalizing f with
  | nil => rfl
  | cons n rest ih =>
    rw [Framer.takeFrom]
    split
    · exact (congrArg f.withOutbound (ih (f.enter n)) :)
    · rfl

theorem Framer.sendByte_outbound (f : Framer) (l : Link) : f.withOutbound (f.sendByte l) = f := by
  have gone : f.withOutbound f.byteGone = f := by
    unfold Framer.byteGone Framer.depart
    split
    · rfl
    · split
      · split
        · rfl
        · next rest _ => exact (congrArg f.withOutbound (({ f with out := rest, sent := 0 } : Framer).takeFrom_outbound f.backlog) :)
      · rfl
  exact gone

theorem Framer.sendBytes_outbound (l : Link) (n : Nat) (f : Framer) : f.withOutbound (f.sendBytes l n) = f := by
  induction n generalizing f with
  | zero => rfl
  | succ n ih =>
    have step := f.sendByte_outbound l
    rw [← ih (f.sendByte l)] at step
    exact step

/-- What a link sends changes its outbound side alone. -/
theorem Framer.sends_outbound (f : Framer) (t : Traffic) : f.withOutbound (f.sends t) = f :=
  (congrArg f.withOutbound (Framer.sendBytes_outbound t.link t.count { f with wire := [] }) :)

end

/-! ### The commands of a link -/

section
variable {s : State} {t : Traffic} {r q : Rx}

/-- A command of a link moves its traffic. -/
theorem State.move_of_released (released : s.held = false) (t : Traffic) (event : Framer → Framer) :
    s.move t event = s.setLink t.link (event ((s.link t.link).traffic t)) := by
  rw [State.move, State.modLink, released]
  rfl

/-- Bytes that start no frame, and then the bytes of a frame up to one that is not its last. -/
theorem movesRx_frame {frame : Frame} (short : frame.payload.length ≤ 272) {n m : Nat} (ordered : n ≤ m) (within : m < frame.payload.length + 7)
    {fill : List Byte} (none' : ∀ b ∈ fill, b ≠ 0xA5) (early : n ≠ 0 → fill = []) :
    movesRx (fill ++ (frame.bytes.take m).drop n) (frame.gathered n) (frame.gathered m) := by
  have gathers := movesRx_gathered short ordered within
  by_cases begun : n = 0
  · subst begun
    exact movesRx_append (movesRx_fill none') gathers
  · rw [early begun]
    exact gathers

/-- With some bytes of a frame taken the machine does not hunt. -/
theorem Frame.gathered_ne_hunt {frame : Frame} {m : Nat} (begun : m ≠ 0) : frame.gathered m ≠ .hunt := by
  rw [Frame.gathered, if_neg begun]
  repeat' split
  all_goals nofun

theorem Framer.cut_of_hunt {g : Framer} (hunt : g.rx = .hunt) : g.cut = g := by
  rw [Framer.cut, hunt]

theorem Framer.cut_of_begun {g : Framer} (begun : g.rx ≠ .hunt) : g.cut = { g with rx := .hunt, cutFrames := saturatingSucc g.cutFrames } := by
  unfold Framer.cut
  split
  · next hunt => exact absurd hunt begun
  · rfl

end

/-- Settles O18: the bytes move the receive machine alone, and then the frame is cut. -/
theorem cutsDiscardPartialFrames : Obligations.CutsDiscardPartialFrames := by
  intro s tag typ payload n m tx fill released short ordered within none' early rx after
  have moves : movesRx rx ((Frame.mk tag typ payload).gathered n) ((Frame.mk tag typ payload).gathered m) :=
    movesRx_frame (frame := ⟨tag, typ, payload⟩) short ordered within none' early
  have cuts {t : Traffic} (is : t.rx = rx) (here : (s.link t.link).rx = (Frame.mk tag typ payload).gathered n) :
      s.move t Framer.cut = after t := by
    rw [← is] at moves
    have kept := (s.link t.link).sends_outbound t
    rw [State.move_of_released released, Framer.traffic_of_moves moves here]
    refine congrArg (s.setLink t.link) ?_
    by_cases begun : m = 0
    · obtain rfl : n = 0 := by omega
      have hunts : ((s.link t.link).sends t).rx = .hunt := (congrArg Framer.rx kept :).trans here
      rw [if_pos begun, begun, Framer.cut_of_hunt rfl]
      exact congrArg (fun r => { (s.link t.link).sends t with rx := r }) hunts.symm
    · have same : ((s.link t.link).sends t).cutFrames = (s.link t.link).cutFrames := (congrArg Framer.cutFrames kept :)
      rw [if_neg begun, Framer.cut_of_begun (Frame.gathered_ne_hunt begun), ← same]
  exact ⟨fun here bits => congrArg Host.Outcome.next (cuts (t := .spi rx) rfl here),
    fun here => ⟨congrArg Host.Outcome.next (cuts (t := .uart rx tx) rfl here), congrArg Host.Outcome.next (cuts (t := .uart rx tx) rfl here)⟩⟩

end Sys2Proof.Machine
end

section
/-! PROOFS. Frames whose CHECK agrees or disagrees, and those given up at their LENGTH (R153, R158). -/

namespace Sys2Proof.Machine

/-- The bytes of a 16-bit field made of two bytes. -/
theorem be16_word16 (high low : Byte) : be16 (word16 high low) = [high, low] := by
  have first : (word16 high low).extractLsb' 8 8 = high := by
    rw [word16]
    exact BitVec.extractLsb'_append_eq_left
  have second : (word16 high low).extractLsb' 0 8 = low := by
    rw [word16]
    exact BitVec.extractLsb'_append_eq_right
  rw [be16, first, second]

theorem toNat_word16 (high low : Byte) : (word16 high low).toNat = 256 * high.toNat + low.toNat := by
  have := low.isLt
  rw [word16, BitVec.toNat_append, ← Nat.shiftLeft_add_eq_or_of_lt this, Nat.shiftLeft_eq]
  omega

/-- The bytes of a frame before its CHECK. -/
theorem Frame.bytes_take (frame : Frame) : frame.bytes.take (frame.payload.length + 5)
    = [0xA5] ++ be16Nat frame.payload.length ++ [frame.tag, frame.typ] ++ frame.payload := by
  rw [frame.bytes_eq]
  simp [be16Nat, be16]

section
variable {s : State} {t : Traffic} {bs : List Byte} {b : Byte} {r q : Rx} {f : Framer}

/-- A CHECK that disagrees gives up its frame (R153). -/
theorem Framer.takeByte_of_bad {length : Nat} {tag typ first : Byte} {payload : List Byte} (state : f.rx = .check length tag typ payload (some first))
    (bad : word16 first b ≠ crc16 (be16Nat length ++ [tag, typ] ++ payload)) : f.takeByte b = f.checkError := by
  rw [Framer.takeByte, state]
  exact if_neg bad

theorem Framer.takeByte_of_good {length : Nat} {tag typ first : Byte} {payload : List Byte} (state : f.rx = .check length tag typ payload (some first))
    (good : word16 first b = crc16 (be16Nat length ++ [tag, typ] ++ payload)) : f.takeByte b = f.goodFrame ⟨tag, typ, payload⟩ := by
  rw [Framer.takeByte, state]
  exact if_pos good

/-- A second LENGTH byte that gives more than 272 gives up its frame (R153). -/
theorem Framer.takeByte_of_long {high : Byte} (state : f.rx = .header [high]) (long : 272 < 256 * high.toNat + b.toNat) :
    f.takeByte b = f.checkError := by
  rw [Framer.takeByte, state]
  exact if_pos (by rw [toNat_word16]; exact long)

/-- Bytes that move the receive machine, and a last one at which a frame is given up. -/
theorem State.move_of_given_up (released : s.held = false) (is : t.rx = bs ++ [b]) (moves : movesRx bs r q) (here : (s.link t.link).rx = r)
    (gives : ∀ f : Framer, f.rx = q → f.takeByte b = f.checkError) :
    s.move t id = s.setLink t.link { (s.link t.link).sends t with
      rx := .hunt, checkErrors := saturatingSucc (s.link t.link).checkErrors } := by
  have same : ((s.link t.link).sends t).checkErrors = (s.link t.link).checkErrors := (congrArg Framer.checkErrors ((s.link t.link).sends_outbound t) :)
  rw [State.move_of_released released, Framer.traffic_of_last is moves here, gives _ rfl, ← same]
  rfl

end

/-- What a link's framer holds once it has given up a frame in this traffic. -/
def Framer.givenUp (f : Framer) (t : Traffic) : Framer := { f.sends t with rx := .hunt, checkErrors := saturatingSucc f.checkErrors }

/-- The bytes of a frame before a LENGTH that is too long move the machine to that LENGTH's second byte. -/
theorem movesRx_long {high : Byte} {n : Nat} {fill : List Byte} (early : n < 3) (none' : ∀ b ∈ fill, b ≠ 0xA5) (begun : n ≠ 0 → fill = []) :
    movesRx (fill ++ [0xA5, high].drop n) (if n = 0 then .hunt else .header ([high].take (n - 1))) (.header [high]) := by
  have second : movesRx [high] (.header []) (.header [high]) := movesRx_single fun f state => by rw [Framer.takeByte, state]; rfl
  match n, early with
  | 0, _ =>
    have sync : movesRx [0xA5] .hunt (.header []) := movesRx_single fun f state => by rw [Framer.takeByte, state]; rfl
    exact movesRx_append (movesRx_fill none') (movesRx_append sync second)
  | 1, _ =>
    rw [begun Nat.one_ne_zero]
    exact second
  | 2, _ =>
    rw [begun (by decide)]
    rfl

/-- Settles O17: the last byte gives up the frame that the bytes before it have gathered. -/
theorem badFramesCounted : Obligations.BadFramesCounted := by
  intro s port rx last traffic n fill f released is none' early after
  rw [after]
  have moved {c : Instr} (runs : exec c s = .next (s.move (port.traffic (rx ++ [last])) id))
      (goes : s.move traffic id = s.setLink traffic.link ((s.link traffic.link).givenUp traffic)) :
      exec c s = .next (s.setLink traffic.link ((s.link traffic.link).givenUp traffic)) := by
    rw [runs, ← is, goes]
  constructor
  · intro tag typ c1 c0 payload short within here differs bytes
    refine moved rfl ?_
    let frame : Frame := ⟨tag, typ, payload⟩
    have bad : word16 c1 c0 ≠ crc16 (be16Nat payload.length ++ [tag, typ] ++ payload) := fun same => differs (by rw [← same, be16_word16])
    have checks : movesRx [c1] (frame.gathered (payload.length + 5)) (.check payload.length tag typ payload (some c1)) :=
      movesRx_single fun g state => by rw [Framer.takeByte, state, show frame.gathered (payload.length + 5) = _ from Frame.gathered_check]
    have cut : traffic.rx = fill ++ (frame.bytes.take (payload.length + 5)).drop n ++ [c1] ++ [c0] := by
      rw [bytes, frame.bytes_take, List.drop_append_of_le_length (by simp [be16Nat, be16]; omega)]
      simp [frame]
    have moves : movesRx (fill ++ (frame.bytes.take (payload.length + 5)).drop n) (frame.gathered n) (frame.gathered (payload.length + 5)) :=
      movesRx_frame (frame := frame) short (by omega) (by change _ < payload.length + 7; omega) none' early
    exact State.move_of_given_up released cut (movesRx_append moves checks) here fun g state => Framer.takeByte_of_bad state bad
  · intro high low long early' here bytes
    refine moved rfl (State.move_of_given_up released ?_ (movesRx_long early' none' early) here fun g state =>
      Framer.takeByte_of_long state long)
    rw [bytes, show [0xA5, high, low] = [0xA5, high] ++ [low] from rfl, List.drop_append_of_le_length (by simp; omega), List.append_assoc]

end Sys2Proof.Machine
end

section
/-! PROOFS. The acceptance of a good frame (R153, R158). -/

namespace Sys2Proof.Machine

/-! ### The steps of R158 -/

section
variable {f : Framer} {r : Request}

/-- Acceptance, its conditions spelled out. -/
theorem Framer.accept_eq (f : Framer) (r : Request) : f.accept r =
    if f.retry.any (fun e => e.tag == r.tag && e.typ == r.typ) then
      (match f.retry with
        | some e => if 0 < f.freeSlots then f.queueFrame e.reply else f.drop
        | none => f)
    else if f.inFlight r.tag then f
    else if f.fifo.length < 4 ∧ 0 < f.freeSlots ∧ f.backlog = [] then f.enqueue r
    else if 0 < f.freeSlots then f.queueFrame (overrunReply r.tag r.typ)
    else f.drop := by
  rw [Framer.accept, Framer.cachedReply]
  cases cached : f.retry with
  | none => simp [Config.inboundPlaces]
  | some e =>
    by_cases same : e.tag = r.tag ∧ e.typ = r.typ
    · simp [same]
    · have differs : ¬ (e.tag == r.tag && e.typ == r.typ) = true := by simpa using same
      simp [same, Config.inboundPlaces]

end

/-- The reply of OVERRUN, its TYPE by the value of the request's. -/
theorem overrunReply_eq (tag typ : Byte) : overrunReply tag typ = ⟨tag, if typ.toNat < 0x80 then typ + 0x80 else typ, [0x60]⟩ := by
  rw [overrunReply, replyType_eq]

/-- The CHECK of a frame is the one its other bytes give. -/
theorem Frame.check_agrees (frame : Frame) : word16 ((crc16 frame.checked).extractLsb' 8 8) ((crc16 frame.checked).extractLsb' 0 8)
    = crc16 (be16Nat frame.payload.length ++ [frame.tag, frame.typ] ++ frame.payload) :=
  word16_extract _

/-- Settles O16: the bytes before the last gather the frame, and the last makes it good. -/
theorem goodFrameAcceptance : Obligations.GoodFrameAcceptance := by
  intro s port rx last traffic tag typ payload n fill f g released is short within here none' early bytes after accepted
  let frame : Frame := ⟨tag, typ, payload⟩
  have cut : traffic.rx = fill ++ (frame.bytes.take (payload.length + 6)).drop n ++ [(crc16 frame.checked).extractLsb' 0 8] := by
    have reaches : n ≤ (frame.bytes.take (payload.length + 6)).length := by
      rw [List.length_take, frame.bytes_length]
      change n ≤ min (payload.length + 6) (payload.length + 7)
      omega
    rw [bytes, List.append_assoc, ← List.drop_append_of_le_length reaches]
    exact congrArg (fun all => fill ++ all.drop n) frame.bytes_last
  have moves : movesRx (fill ++ (frame.bytes.take (payload.length + 6)).drop n) (frame.gathered n)
      (.check payload.length tag typ payload (some ((crc16 frame.checked).extractLsb' 8 8))) :=
    Frame.gathered_last (frame := frame) ▸
      movesRx_frame (frame := frame) short (by omega) (by change payload.length + 6 < payload.length + 7; omega) none' early
  have counted : ((s.link traffic.link).sends traffic).goodFrames = (s.link traffic.link).goodFrames :=
    (congrArg Framer.goodFrames ((s.link traffic.link).sends_outbound traffic) :)
  have settles : (s.link traffic.link).traffic traffic = f.accept ⟨tag, typ, payload⟩ := by
    rw [Framer.traffic_of_last cut moves here, Framer.takeByte_of_good rfl frame.check_agrees, after, ← counted]
    rfl
  have steps : f.accept ⟨tag, typ, payload⟩ = g := by
    rw [Framer.accept_eq, overrunReply_eq]
    exact accepted.symm
  change Host.Outcome.next (s.move (port.traffic (rx ++ [last])) id) = _
  rw [← is, State.move_of_released released, settles, steps]
  rfl

end Sys2Proof.Machine
end

section
/-! PROOFS. What a link sends while it receives no frame (R154, R155, R157, R163). -/

namespace Sys2Proof.Machine

section
variable {f : Framer} {head : Frame} {rest : List Frame} {l : Link} {k : Nat}

/-! ### The bytes of the head frame go out in order -/

/-- A byte of the head frame goes out. -/
theorem Framer.outByte_of_head (queued : f.out = head :: rest) (within : f.sent < head.bytes.length) :
    (f.outByte l).toList = [head.bytes[f.sent]] := by
  have next : f.outByte l = some (head.bytes.getD f.sent Config.fill) := by
    unfold Framer.outByte
    rw [queued]
  rw [next, List.getD_eq_getElem?_getD, List.getElem?_eq_getElem within]
  rfl

/-- A byte of the head frame that is not its last. -/
theorem Framer.sendByte_of_head (queued : f.out = head :: rest) (within : f.sent + 1 < head.bytes.length) :
    f.sendByte l = { f with sent := f.sent + 1, wire := f.wire ++ [head.bytes[f.sent]] } := by
  rw [Framer.sendByte, Framer.outByte_of_head queued (by omega), Framer.byteGone, queued]
  dsimp only
  rw [if_neg (by rw [Frame.size, ← head.bytes_length]; omega)]

/-- The last byte of the head frame frees its slot. -/
theorem Framer.sendByte_of_last (queued : f.out = head :: rest) (last : f.sent + 1 = head.bytes.length) :
    f.sendByte l = { ({ f with out := rest, sent := 0 } : Framer).drainBacklog with wire := f.wire ++ [head.bytes[f.sent]] } := by
  rw [Framer.sendByte, Framer.outByte_of_head queued (by omega), Framer.byteGone, queued]
  dsimp only
  rw [if_pos (by rw [Frame.size, ← head.bytes_length]; omega), Framer.depart, queued]

/-- Bytes of the head frame before its last. -/
theorem Framer.sendBytes_of_head (queued : f.out = head :: rest) (within : f.sent + k < head.bytes.length) :
    f.sendBytes l k = { f with sent := f.sent + k, wire := f.wire ++ (head.bytes.drop f.sent).take k } := by
  induction k with
  | zero => simp [Framer.sendBytes]
  | succ k ih =>
    have more : (head.bytes.drop f.sent).take (k + 1) = (head.bytes.drop f.sent).take k ++ [head.bytes[f.sent + k]] := by
      rw [List.take_add_one, List.getElem?_drop, List.getElem?_eq_getElem (by omega)]
      rfl
    rw [Framer.sendBytes_succ, ih (by omega), more, ← List.append_assoc]
    exact Framer.sendByte_of_head (f := { f with sent := f.sent + k, wire := f.wire ++ (head.bytes.drop f.sent).take k }) queued within

/-- The bytes of the head frame that are left, its last among them. -/
theorem Framer.sendBytes_of_whole (queued : f.out = head :: rest) (begun : f.sent < head.bytes.length) (whole : f.sent + k = head.bytes.length) :
    ∃ wire, f.sendBytes l k = { ({ f with out := rest, sent := 0, wire := wire } : Framer).drainBacklog with
      wire := f.wire ++ head.bytes.drop f.sent } := by
  obtain ⟨j, rfl⟩ : ∃ j, k = j + 1 := ⟨k - 1, by omega⟩
  have left : f.wire ++ head.bytes.drop f.sent = f.wire ++ (head.bytes.drop f.sent).take j ++ [head.bytes[f.sent + j]] := by
    have all : (head.bytes.drop f.sent).take (j + 1) = head.bytes.drop f.sent := List.take_of_length_le (by rw [List.length_drop]; omega)
    rw [List.take_add_one, List.getElem?_drop, List.getElem?_eq_getElem (by omega)] at all
    rw [List.append_assoc]
    exact congrArg (f.wire ++ ·) all.symm
  refine ⟨f.wire ++ (head.bytes.drop f.sent).take j, ?_⟩
  rw [Framer.sendBytes_succ, Framer.sendBytes_of_head (rest := rest) queued (by omega), left]
  exact Framer.sendByte_of_last (f := { f with sent := f.sent + j, wire := f.wire ++ (head.bytes.drop f.sent).take j }) queued whole

/-! ### The freed slot and the backlog -/

theorem Framer.drainBacklog_of_empty (empty : f.backlog = []) : f.drainBacklog = f := by
  rw [Framer.drainBacklog, empty, Framer.takeFrom, ← empty]

/-- One free slot takes the head of the backlog alone. -/
theorem Framer.drainBacklog_of_waiting {n : Notice} {waiting : List Notice} (is : f.backlog = n :: waiting) (one : f.freeSlots = 1) :
    f.drainBacklog = { f.enter n with backlog := waiting } := by
  have full : (f.enter n).freeSlots = 0 := by
    rw [Framer.freeSlots] at one ⊢
    change Config.outboundSlots - (f.out ++ [_]).length - f.reservations = 0
    rw [List.length_append, List.length_singleton]
    omega
  rw [Framer.drainBacklog, is, Framer.takeFrom, if_pos (by omega)]
  cases waiting with
  | nil => rfl
  | cons next more => rw [Framer.takeFrom, if_neg (by omega)]

/-! ### With no frame queued -/

/-- On an idle link each byte position shows the fill byte, or nothing. -/
theorem Framer.sendBytes_of_empty (empty : f.out = []) : f.sendBytes l k = { f with wire := f.wire ++ (match l with
    | .link0 => List.replicate k Config.fill
    | .link1 => []) } := by
  induction k with
  | zero => cases l <;> simp [Framer.sendBytes]
  | succ k ih =>
    rw [Framer.sendBytes_succ, ih]
    refine (Framer.sendByte_of_empty (by exact empty) l).trans ?_
    cases l <;> simp [Framer.outByte, empty, List.replicate_succ']

end

/-- Settles O19: bytes that start no frame leave the receive machine, and the link sends the head frame byte by byte. -/
theorem framesGoOutByteByByte : Obligations.FramesGoOutByteByByte := by
  intro s traffic released hunts none' f moved
  have count : moved = traffic.count := by cases traffic <;> rfl
  have goes {g : Framer} (sends : ({ f with wire := [] } : Framer).sendBytes traffic.link moved = g) :
      exec (.frameSent traffic) s = .next (s.setLink traffic.link g) := by
    have still : (f.sends traffic).rx = .hunt := (congrArg Framer.rx (f.sends_outbound traffic) :).trans hunts
    have receives : f.traffic traffic = f.sends traffic := by
      rw [Framer.traffic_of_moves (movesRx_fill none') hunts, ← still]
    refine congrArg Host.Outcome.next ((State.move_of_released released traffic id).trans (congrArg (s.setLink traffic.link) ?_))
    rw [← sends, count]
    exact receives
  refine ⟨fun head rest queued begun => ⟨fun within => goes ?_, fun whole empty => goes ?_, fun n waiting whole is full => goes ?_⟩,
    fun empty => goes ?_⟩
  · exact Framer.sendBytes_of_head (f := { f with wire := [] }) queued within
  · obtain ⟨wire, sends⟩ := Framer.sendBytes_of_whole (f := { f with wire := [] }) (l := traffic.link) queued begun whole
    rw [sends, Framer.drainBacklog_of_empty (f := { f with wire := wire, out := rest, sent := 0 }) empty]
    rfl
  · have one : ({ f with wire := [], out := rest, sent := 0 } : Framer).freeSlots = 1 := by
      rw [queued, List.length_cons] at full
      change 16 - rest.length - f.reservations = 1
      omega
    obtain ⟨wire, sends⟩ := Framer.sendBytes_of_whole (f := { f with wire := [] }) (l := traffic.link) queued begun whole
    rw [sends, Framer.drainBacklog_of_waiting (f := { f with wire := wire, out := rest, sent := 0 }) is one]
    rfl
  · refine (Framer.sendBytes_of_empty (f := { f with wire := [] }) empty).trans ?_
    cases traffic <;> rfl

end Sys2Proof.Machine
end

section
/-! PROOFS. What the first step of mount's sweep leaves of what scan and resolve have found (R126 to R129, R149). -/

namespace Sys2Proof.Machine

/-- What header scan, image scan and resolve rebuild, and what they read. -/
structure Found where
  held : Bool
  supply : Supply
  uartRate : UartRate
  array : CellArray
  epoch : Word32
  sectors : Vector SectorRecord 32
  openSequenceNext : Word32
  generationNext : Gen
  directory : List DirEntry
  marks : List MarkEntry

def State.found (s : State) : Found :=
  ⟨s.held, s.supply, s.uartRate, s.array, s.epoch, s.sectors, s.openSequenceNext, s.generationNext, s.directory, s.marks⟩

section
variable {s : State} {m : MountRecord}

theorem State.offerBoth_found (s : State) (n : Notice) : (s.offerBoth n).found = s.found := (congrArg State.found (s.offerBoth_frame n) :)

theorem State.settle_found (s : State) : s.settle.found = s.found := by
  obtain ⟨t, engine, ended, same⟩ := s.settle_frame
  rw [same]
  exact (congrArg State.found ended.gaveBack.frame :)

theorem State.mountEnd_found (victims : m.victims = []) : (s.mountEnd m).found = s.found := by
  have ends : s.mountEnd m = s.leaveMounting (s.mountedStore m.cause) := by rw [State.mountEnd, victims]; rfl
  rw [ends]
  exact State.offerBoth_found ..

/-- An urgent start of the sweep with no pass takes a victim, or ends mount with NO_PROGRESS. -/
theorem State.urgentStart_found (mount : s.mount = some m) (victims : m.victims = []) (none' : s.pass = none) :
    s.urgentStart.found = s.found := by
  cases chosen : s.staleChoice 1 with
  | some v =>
    have starts : s.urgentStart = s.startPass v .urgent := by simp only [State.urgentStart, none', chosen]
    rw [starts]
    rfl
  | none =>
    have stops : s.urgentStart = s.mountEnd (m.meet .noProgress) := by
      simp only [State.urgentStart, none', chosen, State.noProgress, State.stopWork, mount]
    rw [stops]
    exact State.mountEnd_found ((m.meet_victims _).trans victims)

/-- A step of the sweep that takes up no VICTIM sector keeps what scan and resolve have found. -/
theorem State.sweepNext_found (mount : s.mount = some m) (none' : s.pass = none) (still : s.supply = .low ∨ m.victims = []) :
    (s.sweepNext m).found = s.found := by
  by_cases low : s.supply = .low
  · by_cases left : m.eraseList ≠ [] ∨ m.closeList ≠ [] ∨ m.victims ≠ []
    · rw [State.sweepNext_of_low low left]
      rfl
    · have ⟨erase, close, victims⟩ : m.eraseList = [] ∧ m.closeList = [] ∧ m.victims = [] := by simpa using left
      rw [State.sweepNext, erase, close, victims]
      dsimp only
      split
      · exact State.mountEnd_found victims
      · rfl
  · have normal : s.supply = .normal := by cases supply : s.supply with
      | normal => rfl
      | low => exact absurd supply low
    have victims : m.victims = [] := still.resolve_left low
    cases erase : m.eraseList with
    | cons x more =>
      rw [State.sweepNext_of_erase normal erase]
      rfl
    | nil =>
      cases close : m.closeList with
      | cons x more =>
        rw [State.sweepNext_of_close normal erase close]
        rfl
      | nil =>
        rw [State.sweepNext, erase, close, victims]
        dsimp only
        split
        · exact State.mountEnd_found victims
        · exact State.urgentStart_found mount victims none'

theorem State.sweepOn_found (mount : s.mount = some m) (none' : s.pass = none) (still : s.supply = .low ∨ m.victims = []) :
    s.sweepOn.found = s.found := by
  rw [State.sweepOn_of_mount mount]
  exact State.sweepNext_found (s := { s with engine := .mounting }) mount none' still

end

end Sys2Proof.Machine
end

section
/-! PROOFS. The header scan: what the highest of the numbers read is, and the class of each sector (R54, R112 to R114). -/

namespace Sys2Proof.Machine

/-! ### The highest of the numbers read (R112) -/

section
variable {w : Nat} {seen : Option (BitVec w)} {vs : List (BitVec w)} {v : BitVec w}

/-- A number that is one of a list and not below any of it. -/
def highestOf (vs : List (BitVec w)) (v : BitVec w) : Prop := v ∈ vs ∧ ∀ u ∈ vs, u.toNat ≤ v.toNat

theorem foldl_maxSeen_some (u : BitVec w) (vs : List (BitVec w)) : ∃ v, vs.foldl maxSeen (some u) = some v ∧ highestOf (u :: vs) v := by
  induction vs generalizing u with
  | nil => exact ⟨u, rfl, List.mem_singleton_self u, fun n mem => Nat.le_of_eq (by rw [List.mem_singleton.mp mem])⟩
  | cons n rest ih =>
    obtain ⟨v, is, mem, above⟩ := ih (if u.toNat < n.toNat then n else u)
    have top := above _ List.mem_cons_self
    refine ⟨v, is, ?_, fun k mem' => ?_⟩
    · rcases List.mem_cons.mp mem with rfl | mem
      · split <;> simp
      · exact List.mem_cons_of_mem u (List.mem_cons_of_mem n mem)
    · rcases List.mem_cons.mp mem' with rfl | mem'
      · split at top <;> omega
      rcases List.mem_cons.mp mem' with rfl | mem'
      · split at top <;> omega
      · exact above k (List.mem_cons_of_mem _ mem')

/-- The highest of a list, or none of an empty one. -/
theorem foldl_maxSeen (vs : List (BitVec w)) : (vs = [] ∧ vs.foldl maxSeen none = none) ∨ ∃ v, vs.foldl maxSeen none = some v ∧ highestOf vs v := by
  cases vs with
  | nil => exact .inl ⟨rfl, rfl⟩
  | cons u rest => exact .inr (foldl_maxSeen_some u rest)

theorem foldl_maxSeen_of_highest (highest : highestOf vs v) : vs.foldl maxSeen none = some v := by
  rcases foldl_maxSeen vs with ⟨empty, _⟩ | ⟨u, is, mem, above⟩
  · rw [empty] at highest
    cases highest.1
  · rw [is, BitVec.eq_of_toNat_eq (Nat.le_antisymm (highest.2 u mem) (above v highest.1))]

end

/-- The numbers that a reading gives over all headers. -/
def CellArray.readings (a : CellArray) (f : HeaderLine → Option Word32) : List Word32 := allSectors.filterMap fun x => f a.headers[x]

section
variable {a : CellArray} {f : HeaderLine → Option Word32} {v : Word32}

theorem CellArray.highest_eq (a : CellArray) (f : HeaderLine → Option Word32) : a.highest f = (a.readings f).foldl maxSeen none := by
  unfold CellArray.highest CellArray.readings
  generalize none = seen
  generalize allSectors = xs
  induction xs generalizing seen with
  | nil => rfl
  | cons x rest ih =>
    rw [List.foldl_cons, List.filterMap_cons]
    cases f a.headers[x] with
    | some v => exact ih (maxSeen seen v)
    | none => exact ih seen

theorem CellArray.mem_readings : v ∈ a.readings f ↔ ∃ x : Sector, f a.headers[x] = some v := by
  simp [CellArray.readings, mem_allSectors]

theorem CellArray.highest_of (mem : ∃ x : Sector, f a.headers[x] = some v) (above : ∀ (y : Sector) (u : Word32), f a.headers[y] = some u → u.toNat ≤ v.toNat) :
    a.highest f = some v := by
  rw [a.highest_eq]
  exact foldl_maxSeen_of_highest ⟨CellArray.mem_readings.mpr mem, fun u read => (CellArray.mem_readings.mp read).elim fun y is => above y u is⟩

end

/-! ### The class of a sector (R54, R113, R114) -/

section
variable {h : HeaderLine} {p : Word32 × Word32} {v : Word32}

/-- A valid prepared block starts with the identity pattern. -/
theorem identity_of_prepared (valid : readPrepared h = .valid p) : h.extractLsb' 144 32 = Config.identityPattern := by
  rw [readPrepared] at valid
  split at valid
  · cases valid
  · split at valid
    · next agrees => exact agrees.1
    · cases valid

theorem ne_zero_of_prepared (valid : readPrepared h = .valid p) : h ≠ 0 := by
  rintro rfl
  exact absurd (identity_of_prepared valid) (by decide)

theorem ne_allOnes_of_prepared (valid : readPrepared h = .valid p) : h ≠ BitVec.allOnes 176 := by
  rintro rfl
  exact absurd (identity_of_prepared valid) (by decide)

theorem preparedOf_eq_some : preparedOf h = some p ↔ readPrepared h = .valid p := by
  rw [preparedOf]
  split
  · next zero => exact ⟨nofun, fun valid => absurd zero (ne_zero_of_prepared valid)⟩
  · split
    · next q valid => rw [valid, Option.some.injEq, Reading.valid.injEq]
    · next other => exact ⟨nofun, fun valid => absurd valid (other p)⟩

theorem openSequenceOf_eq_some : openSequenceOf h = some v ↔ h ≠ 0 ∧ readOpenSequence h = .valid v := by
  rw [openSequenceOf]
  split
  · next zero => exact ⟨nofun, fun read => absurd zero read.1⟩
  · next other =>
    split
    · next u valid => rw [valid, Option.some.injEq, Reading.valid.injEq, and_iff_right other]
    · next invalid => exact ⟨nofun, fun read => absurd read.2 (invalid v)⟩

/-- The class that a header with a valid prepared block has by its open sequence and its marks (R113). -/
def preparedClass (h : HeaderLine) : SectorClass :=
  match readOpenSequence h with
  | .absent => if fullMarkSet h || victimMarkSet h then .stale else .erased
  | .torn => .stale
  | .valid _ => if victimMarkSet h then .victim else if fullMarkSet h then .full else .opened

theorem classify_of_prepared (valid : readPrepared h = .valid p) : classify h = preparedClass h := by
  rw [classify, if_neg (ne_zero_of_prepared valid), if_neg (ne_allOnes_of_prepared valid), valid]
  rfl

/-- The classes that the image scan reads (R116). -/
def SectorClass.isScanned : SectorClass → Bool
  | .opened | .full | .victim => true
  | _ => false

theorem preparedClass_ne (h : HeaderLine) : preparedClass h ≠ .retired ∧ preparedClass h ≠ .blank := by
  unfold preparedClass
  repeat' split
  all_goals exact ⟨nofun, nofun⟩

theorem preparedClass_isScanned (h : HeaderLine) : (preparedClass h).isScanned = true ↔ ∃ v, readOpenSequence h = .valid v := by
  unfold preparedClass
  cases readOpenSequence h with
  | absent => cases fullMarkSet h || victimMarkSet h <;> exact ⟨nofun, nofun⟩
  | torn => exact ⟨nofun, nofun⟩
  | valid v => cases victimMarkSet h <;> cases fullMarkSet h <;> exact ⟨fun _ => ⟨v, rfl⟩, fun _ => rfl⟩

end

section
variable {a : CellArray} {epoch count : Word32} {x : Sector}

theorem CellArray.classOf_of_zero (zero : a.headers[x] = 0) : a.classOf epoch x = .retired := by
  rw [CellArray.classOf, zero]
  rfl

/-- A prepared block of the store epoch keeps its class. -/
theorem CellArray.classOf_of_prepared (valid : readPrepared a.headers[x] = .valid (epoch, count)) :
    a.classOf epoch x = preparedClass a.headers[x] := by
  have ⟨retired, blank⟩ := preparedClass_ne a.headers[x]
  rw [CellArray.classOf, classify_of_prepared valid, preparedOf_eq_some.mpr valid]
  revert retired blank
  cases preparedClass a.headers[x] with
  | retired => exact fun no _ => absurd rfl no
  | blank => exact fun _ no => absurd rfl no
  | stale => exact fun _ _ => rfl
  | _ => exact fun _ _ => if_neg (Nat.lt_irrefl _)

/-- A header that is not all zeros and holds no valid prepared block of the store epoch waits for the sweep. -/
theorem CellArray.classOf_of_unprepared (other : a.headers[x] ≠ 0) (invalid : ∀ count, readPrepared a.headers[x] ≠ .valid (epoch, count))
    (highest : ∀ e count, readPrepared a.headers[x] = .valid (e, count) → e.toNat ≤ epoch.toNat) :
    a.classOf epoch x = .blank ∨ a.classOf epoch x = .stale := by
  rw [CellArray.classOf]
  split
  · next retired => exact absurd ((classify_eq_retired_iff _).mp retired) other
  · exact .inl rfl
  · exact .inr rfl
  · split
    · next e count valid =>
      have read := preparedOf_eq_some.mp valid
      have older : e.toNat < epoch.toNat := Nat.lt_of_le_of_ne (highest e count read) fun same =>
        invalid count (BitVec.eq_of_toNat_eq same ▸ read)
      exact .inr (if_pos older)
    · exact .inr rfl

/-- The image scan reads the sectors of three classes (R116). -/
theorem CellArray.scanned_iff (highest : ∀ e count, readPrepared a.headers[x] = .valid (e, count) → e.toNat ≤ epoch.toNat) :
    a.scanned epoch x ↔ (a.classOf epoch x).isScanned = true := by
  constructor
  · rintro ⟨⟨count, valid⟩, opened⟩
    rw [CellArray.classOf_of_prepared valid]
    exact (preparedClass_isScanned _).mpr opened
  · intro scanned
    by_cases zero : a.headers[x] = 0
    · rw [CellArray.classOf_of_zero zero] at scanned
      cases scanned
    by_cases prepared : ∃ count, readPrepared a.headers[x] = .valid (epoch, count)
    · obtain ⟨count, valid⟩ := prepared
      rw [CellArray.classOf_of_prepared valid] at scanned
      exact ⟨⟨count, valid⟩, (preparedClass_isScanned _).mp scanned⟩
    · rcases CellArray.classOf_of_unprepared zero (not_exists.mp prepared) highest with blank | stale
      · rw [blank] at scanned
        cases scanned
      · rw [stale] at scanned
        cases scanned

/-- A sector classed VICTIM carries the VICTIM mark. -/
theorem victimMarkSet_of_class {h : HeaderLine} (victim : preparedClass h = .victim) : victimMarkSet h = true := by
  refine Classical.byContradiction fun marked => ?_
  have unmarked : victimMarkSet h = false := Bool.eq_false_iff.mpr marked
  revert victim
  rw [preparedClass, unmarked]
  cases readOpenSequence h with
  | torn => exact nofun
  | _ => cases fullMarkSet h <;> exact nofun

/-- The classes of all sectors, in order (R114). -/
def CellArray.classesOf (a : CellArray) (epoch : Word32) : List SectorClass := allSectors.map (a.classOf epoch)

theorem CellArray.mem_sectorsOf {c : SectorClass} : x ∈ sectorsOf (a.classesOf epoch) c ↔ a.classOf epoch x = c := by
  rw [sectorsOf, CellArray.classesOf, List.mem_filter, decide_eq_true_iff, getD_map_allSectors (a.classOf epoch) x]
  exact and_iff_right (mem_allSectors x)

theorem CellArray.countOf_of_prepared (valid : readPrepared a.headers[x] = .valid (epoch, count)) : a.countOf x = count := by
  rw [CellArray.countOf, preparedOf_eq_some.mpr valid]

/-- The open sequence of a sector whose header gives one. -/
theorem CellArray.sequenceOf_of_valid {v : Word32} (other : a.headers[x] ≠ 0) (valid : readOpenSequence a.headers[x] = .valid v) :
    a.sequenceOf x = v := by
  rw [CellArray.sequenceOf, openSequenceOf_eq_some.mpr ⟨other, valid⟩]
  rfl

end

/-! ### The record that resolve gives a sector (R114, R117, R122) -/

section
variable {a : CellArray} {epoch count retired : Word32} {x : Sector} {closing : Bool} {stop live : Nat}

/-- The record of a sector of a scanned class has its header's open sequence and erase count. -/
theorem CellArray.recordOf_of_scanned {c : SectorClass} (scanned : c.isScanned = true) :
    (a.recordOf c closing stop live retired x).state.openSequence = some (a.sequenceOf x) ∧
      (a.recordOf c closing stop live retired x).eraseCount = a.countOf x := by
  cases c with
  | opened => cases closing <;> exact ⟨rfl, rfl⟩
  | full => exact ⟨rfl, rfl⟩
  | victim => cases closing <;> exact ⟨rfl, rfl⟩
  | _ => cases scanned

/-- A sector whose class is BLANK or STALE waits for the sweep. -/
theorem CellArray.recordOf_of_waiting {c : SectorClass} (waits : c = .blank ∨ c = .stale) :
    (a.recordOf c closing stop live retired x).state = .unscanned := by
  rcases waits with rfl | rfl <;> rfl

/-- The class of a prepared sector that is neither ERASED nor scanned. -/
theorem preparedClass_of_stale {h : HeaderLine}
    (torn : readOpenSequence h = .torn ∨ (readOpenSequence h = .absent ∧ (fullMarkSet h || victimMarkSet h) = true)) :
    preparedClass h = .stale := by
  rw [preparedClass]
  rcases torn with torn | ⟨absent, marked⟩
  · rw [torn]
  · rw [absent]
    exact if_pos marked

theorem preparedClass_of_erased {h : HeaderLine} (absent : readOpenSequence h = .absent) (unmarked : (fullMarkSet h || victimMarkSet h) = false) :
    preparedClass h = .erased := by
  rw [preparedClass, absent]
  exact if_neg (by rw [unmarked]; nofun)

end

end Sys2Proof.Machine
end

section
/-! PROOFS. The image scan: the images it comes to, the candidates and the generations it reads (R116). -/

namespace Sys2Proof.Machine

section
variable {a : CellArray} {epoch : Word32} {x : Sector} {settled inVictim : Bool} {h : ImageHeader}

/-- The images that the scan of a sector comes to from a line on; the first argument bounds their number, as in the model's scan. -/
def CellArray.imagesFrom (a : CellArray) (x : Sector) : Nat → Nat → List (Loc × ImageHeader)
  | 0, _ => []
  | n + 1, c =>
    if 256 ≤ c then []
    else
      match readImageHeader (a.readLine ⟨x, c⟩) c with
      | .image h => (⟨x, c⟩, h) :: a.imagesFrom x n (c + h.lines)
      | _ => []

/-- The images that the scan of a sector comes to. -/
def CellArray.imagesOf (a : CellArray) (x : Sector) : List (Loc × ImageHeader) := a.imagesFrom x 256 1

/-- The candidate that an image gives. -/
def CellArray.candidate (a : CellArray) (inVictim : Bool) (i : Loc × ImageHeader) : Candidate where
  loc := i.1
  kind := i.2.kind
  key := i.2.key
  length := i.2.length
  generation := i.2.generation
  tagging := i.2.tagging
  openSequence := a.sequenceOf i.1.sector
  inVictim := inVictim

/-- The candidates of a list of images: those whose payload agrees. -/
def CellArray.candidatesOf (a : CellArray) (inVictim : Bool) (images : List (Loc × ImageHeader)) : List Candidate :=
  (images.filter fun i => a.payloadAgrees i.1 i.2).map (a.candidate inVictim)

/-- The generations of a list of images. -/
def generationsOf (images : List (Loc × ImageHeader)) : List Gen := images.map fun i => i.2.generation

theorem CellArray.imagesFrom_of_image {n c : Nat} (within : c < 256) (image : readImageHeader (a.readLine ⟨x, c⟩) c = .image h) :
    a.imagesFrom x (n + 1) c = (⟨x, c⟩, h) :: a.imagesFrom x n (c + h.lines) := by
  rw [CellArray.imagesFrom, if_neg (by omega), image]

/-- The scan of a sector takes the candidates and generations of the images it comes to. -/
theorem CellArray.scanFrom_reads (n c : Nat) (found : List Candidate) (highest : Option Gen) :
    (a.scanFrom x settled inVictim n c found highest).candidates = found ++ a.candidatesOf inVictim (a.imagesFrom x n c) ∧
    (a.scanFrom x settled inVictim n c found highest).highest = (generationsOf (a.imagesFrom x n c)).foldl maxSeen highest := by
  induction n generalizing c found highest with
  | zero => exact ⟨(List.append_nil found).symm, rfl⟩
  | succ n ih =>
    rw [CellArray.scanFrom, CellArray.imagesFrom]
    by_cases past : 256 ≤ c
    · rw [if_pos past, if_pos past]
      exact ⟨(List.append_nil found).symm, rfl⟩
    rw [if_neg past, if_neg past]
    cases readImageHeader (a.readLine ⟨x, c⟩) c with
    | image h =>
      obtain ⟨candidates, highest'⟩ := ih (c + h.lines) (if a.payloadAgrees ⟨x, c⟩ h then found ++ [a.candidate inVictim (⟨x, c⟩, h)] else found)
        (maxSeen highest h.generation)
      refine ⟨candidates.trans ?_, highest'⟩
      rw [CellArray.candidatesOf, CellArray.candidatesOf, List.filter_cons]
      cases a.payloadAgrees ⟨x, c⟩ h with
      | true => exact List.append_assoc ..
      | false => rfl
    | _ => exact ⟨(List.append_nil found).symm, rfl⟩

/-! ### The images that the scan comes to -/

/-- An image has at least one line. -/
theorem ImageHeader.lines_pos (h : ImageHeader) : 1 ≤ h.lines := by
  unfold ImageHeader.lines linesOf
  cases h.kind with
  | value => exact Nat.le_add_right 1 _
  | _ => exact Nat.le_refl _

theorem CellArray.imagesFrom_reached {n c : Nat} (reached : a.ScanReaches x c) {i : Loc × ImageHeader} (mem : i ∈ a.imagesFrom x n c) :
    i.1.sector = x ∧ a.ScanReaches x i.1.line ∧ i.1.line < 256 ∧ readImageHeader (a.readLine i.1) i.1.line = .image i.2 := by
  induction n generalizing c with
  | zero => cases mem
  | succ n ih =>
    rw [CellArray.imagesFrom] at mem
    split at mem
    · cases mem
    · next within =>
      split at mem
      · next h image =>
        rcases List.mem_cons.mp mem with rfl | mem
        · exact ⟨rfl, reached, Nat.not_le.mp within, image⟩
        · exact ih (reached.after (by omega) image) mem
      · cases mem

/-- The scan's bound never ends it: from every line it comes to, what is left of the bound reaches past the sector. -/
theorem CellArray.imagesFrom_of_reached {c : Nat} (reached : a.ScanReaches x c) :
    ∃ n, 257 ≤ n + c ∧ ∀ i ∈ a.imagesFrom x n c, i ∈ a.imagesOf x := by
  induction reached with
  | first => exact ⟨256, (Nat.le_refl _), fun i mem => mem⟩
  | @after c h reached within image ih =>
    obtain ⟨n, enough, includes⟩ := ih
    obtain ⟨k, rfl⟩ : ∃ k, n = k + 1 := ⟨n - 1, by omega⟩
    have := h.lines_pos
    rw [CellArray.imagesFrom_of_image within image] at includes
    exact ⟨k, by omega, fun i mem => includes i (List.mem_cons_of_mem _ mem)⟩

/-- The images of a sector are those whose header lines the scan reads. -/
theorem CellArray.mem_imagesOf {i : Loc × ImageHeader} : i ∈ a.imagesOf x ↔
    i.1.sector = x ∧ a.ScanReaches x i.1.line ∧ i.1.line < 256 ∧ readImageHeader (a.readLine i.1) i.1.line = .image i.2 := by
  refine ⟨CellArray.imagesFrom_reached .first, ?_⟩
  obtain ⟨⟨sector, line⟩, h⟩ := i
  rintro ⟨rfl, reached, within, image⟩
  obtain ⟨n, enough, includes⟩ := CellArray.imagesFrom_of_reached reached
  obtain ⟨k, rfl⟩ : ∃ k, n = k + 1 := ⟨n - 1, by dsimp only at *; omega⟩
  refine includes _ ?_
  rw [CellArray.imagesFrom_of_image within image]
  exact List.mem_cons_self

/-! ### The sectors that the image scan reads -/

theorem CellArray.mem_insertBySequence {y : Sector} : ∀ {xs : List Sector}, y ∈ a.insertBySequence x xs ↔ y = x ∨ y ∈ xs
  | [] => by simp [CellArray.insertBySequence]
  | z :: rest => by
    rw [CellArray.insertBySequence]
    split
    · exact List.mem_cons
    · rw [List.mem_cons, CellArray.mem_insertBySequence, List.mem_cons]
      exact or_left_comm

theorem CellArray.mem_bySequence {y : Sector} {xs : List Sector} : y ∈ a.bySequence xs ↔ y ∈ xs := by
  have more (xs sorted : List Sector) : y ∈ xs.foldl (fun sorted x => a.insertBySequence x sorted) sorted ↔ y ∈ xs ∨ y ∈ sorted := by
    induction xs generalizing sorted with
    | nil => simp
    | cons x rest ih => rw [List.foldl_cons, ih, CellArray.mem_insertBySequence, List.mem_cons, or_left_comm, or_assoc]
  rw [CellArray.bySequence, more]
  simp

end

/-- The sectors that the image scan reads, in its order. -/
def CellArray.scanOrder (a : CellArray) (classes : List SectorClass) : List Sector :=
  a.bySequence (sectorsOf classes .opened ++ sectorsOf classes .full ++ sectorsOf classes .victim)

/-- The candidates of one sector by its class. -/
def CellArray.sectorCandidates (a : CellArray) (classes : List SectorClass) (x : Sector) : List Candidate :=
  a.candidatesOf (decide (classes.getD x.val .stale = .victim)) (a.imagesOf x)

section
variable {a : CellArray} {epoch : Word32} {classes : List SectorClass} {surplus : List Sector}

/-- The image scan takes the candidates and the highest generation of all the images it comes to. -/
theorem CellArray.scanImages_reads : (a.scanImages classes surplus).candidates = (a.scanOrder classes).flatMap (a.sectorCandidates classes) ∧
    (a.scanImages classes surplus).highest = ((a.scanOrder classes).flatMap fun x => generationsOf (a.imagesOf x)).foldl maxSeen none := by
  have more (xs : List Sector) (acc : ArrayScan) :
      (xs.foldl (a.scanNext classes surplus) acc).candidates = acc.candidates ++ xs.flatMap (a.sectorCandidates classes) ∧
      (xs.foldl (a.scanNext classes surplus) acc).highest = (xs.flatMap fun x => generationsOf (a.imagesOf x)).foldl maxSeen acc.highest := by
    induction xs generalizing acc with
    | nil => exact ⟨(List.append_nil _).symm, rfl⟩
    | cons x rest ih =>
      obtain ⟨candidates, highest⟩ := ih (a.scanNext classes surplus acc x)
      have ⟨found, top⟩ := CellArray.scanFrom_reads (a := a) (x := x)
        (settled := decide (classes.getD x.val .stale = .full) || decide (classes.getD x.val .stale = .victim) || surplus.contains x)
        (inVictim := decide (classes.getD x.val .stale = .victim)) 256 1 acc.candidates acc.highest
      constructor
      · refine candidates.trans ?_
        rw [List.flatMap_cons, ← List.append_assoc]
        exact congrArg (· ++ _) found
      · refine highest.trans ?_
        rw [List.flatMap_cons, List.foldl_append]
        exact congrArg (fun seen => List.foldl maxSeen seen _) top
  exact more (a.scanOrder classes) ⟨[], none, [], []⟩

end

section
variable {a : CellArray} {epoch : Word32} {surplus : List Sector}

/-- No header holds a valid prepared block of a higher epoch. -/
def CellArray.epochTops (a : CellArray) (epoch : Word32) : Prop :=
  ∀ (x : Sector) (e count : Word32), readPrepared a.headers[x] = .valid (e, count) → e.toNat ≤ epoch.toNat

theorem CellArray.mem_scanOrder (tops : a.epochTops epoch) {x : Sector} : x ∈ a.scanOrder (a.classesOf epoch) ↔ a.scanned epoch x := by
  rw [CellArray.scanOrder, CellArray.mem_bySequence, List.mem_append, List.mem_append, CellArray.mem_sectorsOf, CellArray.mem_sectorsOf,
    CellArray.mem_sectorsOf, CellArray.scanned_iff (tops x)]
  cases a.classOf epoch x <;> simp [SectorClass.isScanned]

/-- The candidates are the readable images whose payload agrees. -/
theorem CellArray.mem_candidates (tops : a.epochTops epoch) {c : Candidate} :
    c ∈ (a.scanImages (a.classesOf epoch) surplus).candidates ↔ ∃ loc h, a.readable epoch loc h ∧ a.payloadAgrees loc h = true ∧
      c = a.candidate (decide (a.classOf epoch loc.sector = .victim)) (loc, h) := by
  rw [CellArray.scanImages_reads.1, List.mem_flatMap]
  constructor
  · rintro ⟨x, order, mem⟩
    rw [CellArray.sectorCandidates, CellArray.classesOf, getD_map_allSectors (a.classOf epoch) x] at mem
    obtain ⟨⟨loc, h⟩, image, rfl⟩ := List.mem_map.mp mem
    obtain ⟨image, agrees⟩ := List.mem_filter.mp image
    obtain ⟨rfl, reached, within, reads⟩ := CellArray.mem_imagesOf.mp image
    exact ⟨loc, h, ⟨(CellArray.mem_scanOrder tops).mp order, reached, within, reads⟩, agrees, rfl⟩
  · rintro ⟨loc, h, ⟨scanned, reached, within, reads⟩, agrees, rfl⟩
    refine ⟨loc.sector, (CellArray.mem_scanOrder tops).mpr scanned, ?_⟩
    rw [CellArray.sectorCandidates, CellArray.classesOf, getD_map_allSectors (a.classOf epoch) loc.sector]
    exact List.mem_map_of_mem (List.mem_filter.mpr ⟨CellArray.mem_imagesOf.mpr ⟨rfl, reached, within, reads⟩, agrees⟩)

/-- The generations read are those of the readable images. -/
theorem CellArray.mem_generations (tops : a.epochTops epoch) {g : Gen} :
    g ∈ ((a.scanOrder (a.classesOf epoch)).flatMap fun x => generationsOf (a.imagesOf x)) ↔
      ∃ loc h, a.readable epoch loc h ∧ h.generation = g := by
  rw [List.mem_flatMap]
  constructor
  · rintro ⟨x, order, mem⟩
    obtain ⟨⟨loc, h⟩, image, rfl⟩ := List.mem_map.mp mem
    obtain ⟨rfl, reached, within, reads⟩ := CellArray.mem_imagesOf.mp image
    exact ⟨loc, h, ⟨(CellArray.mem_scanOrder tops).mp order, reached, within, reads⟩, rfl⟩
  · rintro ⟨loc, h, ⟨scanned, reached, within, reads⟩, rfl⟩
    exact ⟨loc.sector, (CellArray.mem_scanOrder tops).mpr scanned,
      List.mem_map.mpr ⟨(loc, h), CellArray.mem_imagesOf.mpr ⟨rfl, reached, within, reads⟩, rfl⟩⟩

/-! ### The generation counter (R116, R123) -/

/-- A header that reads as an image meets the conditions on its fields. -/
theorem fieldsValid_of_image {l : Line} {c : Nat} {h : ImageHeader} (image : readImageHeader l c = .image h) : h.fieldsValid c = true := by
  unfold readImageHeader at image
  extract_lets check at image
  split at image
  · cases image
  · split at image
    · cases image
    · split at image
      · extract_lets got at image
        split at image
        · next valid =>
          obtain rfl := HeaderReading.image.inj image
          exact valid
        · cases image
      · cases image

/-- A valid header has a generation below the highest value. -/
theorem generation_of_image {l : Line} {c : Nat} {h : ImageHeader} (image : readImageHeader l c = .image h) : h.generation ≠ BitVec.allOnes 32 := by
  have valid := fieldsValid_of_image image
  rw [ImageHeader.fieldsValid, Bool.and_eq_true, Bool.and_eq_true, decide_eq_true_iff] at valid
  obtain ⟨⟨_, _, below⟩, _⟩ := valid
  exact below

/-- The counter that resolve sets is above every generation read, and follows the highest. -/
theorem CellArray.counterAfter_scan (tops : a.epochTops epoch) :
    (∀ loc h, a.readable epoch loc h → h.generation.toNat < (counterAfter (a.scanImages (a.classesOf epoch) surplus).highest).toNat) ∧
    (counterAfter (a.scanImages (a.classesOf epoch) surplus).highest = 1 ∨ ∃ loc h, a.readable epoch loc h ∧
      h.generation.toNat + 1 = (counterAfter (a.scanImages (a.classesOf epoch) surplus).highest).toNat) := by
  rw [CellArray.scanImages_reads.2]
  rcases foldl_maxSeen ((a.scanOrder (a.classesOf epoch)).flatMap fun x => generationsOf (a.imagesOf x)) with ⟨empty, none'⟩ | ⟨g, is, mem, above⟩
  · rw [none']
    refine ⟨fun loc h readable => ?_, .inl rfl⟩
    have mem := (CellArray.mem_generations tops).mpr ⟨loc, h, readable, rfl⟩
    rw [empty] at mem
    cases mem
  · obtain ⟨loc, h, readable, rfl⟩ := (CellArray.mem_generations tops).mp mem
    have next : (counterAfter (some h.generation)).toNat = h.generation.toNat + 1 := by
      rw [counterAfter, afterHighest, saturatingSucc, if_neg (generation_of_image readable.2.2.2)]
      have below : h.generation.toNat ≠ 2 ^ 32 - 1 := fun top => generation_of_image readable.2.2.2 (BitVec.eq_of_toNat_eq top)
      bv_omega
    rw [is, next]
    exact ⟨fun loc' g readable' => Nat.lt_succ_of_le (above _ ((CellArray.mem_generations tops).mpr ⟨loc', g, readable', rfl⟩)),
      .inr ⟨loc, h, readable, rfl⟩⟩

end

end Sys2Proof.Machine
end

section
/-! PROOFS. Resolve: the winners of the keys, the directory and the mark table (R118 to R121). -/

namespace Sys2Proof.Machine

/-! ### The order of the candidates (R119) -/

/-- An image does not stand above another of its key: not at a higher generation, and not SOLO at the same one where the other is TAGGED. -/
def Candidate.notAbove (c w : Candidate) : Prop :=
  c.generation.toNat ≤ w.generation.toNat ∧ (c.generation = w.generation → c.tagging = .solo → w.tagging = .solo)

section
variable {a b c w z : Candidate} {ws cs : List Candidate}

theorem Candidate.notAbove_refl (c : Candidate) : c.notAbove c := ⟨(Nat.le_refl _), fun _ solo => solo⟩

theorem Candidate.notAbove_trans (first : a.notAbove b) (second : b.notAbove c) : a.notAbove c := by
  refine ⟨Nat.le_trans first.1 second.1, fun same solo => ?_⟩
  have mid : a.generation = b.generation := BitVec.eq_of_toNat_eq (Nat.le_antisymm first.1 (by rw [same]; exact second.1))
  exact second.2 (mid.symm.trans same) (first.2 mid solo)

theorem Candidate.notAbove_of_beats (beats : c.beats w = true) : w.notAbove c := by
  rw [Candidate.beats] at beats
  split at beats
  · next differs => exact ⟨Nat.le_of_lt (of_decide_eq_true beats), fun same => absurd same.symm differs⟩
  · next same =>
    refine ⟨Nat.le_of_eq (by rw [Classical.not_not.mp same]), fun _ solo => ?_⟩
    split at beats
    · exact of_decide_eq_true beats
    · next tagged => rw [Classical.not_not.mp tagged, solo]

theorem Candidate.notAbove_of_not_beats (beats : ¬ c.beats w = true) : c.notAbove w := by
  rw [Candidate.beats] at beats
  split at beats
  · next differs => exact ⟨Nat.not_lt.mp fun above => beats (decide_eq_true above), fun same => absurd same differs⟩
  · next same =>
    refine ⟨Nat.le_of_eq (by rw [Classical.not_not.mp same]), fun _ solo => ?_⟩
    split at beats
    · exact absurd (decide_eq_true solo) beats
    · next tagged => rw [← Classical.not_not.mp tagged, solo]

/-! ### The winners (R119) -/

/-- A list of winners answers a candidate: it holds one of its key that the candidate does not stand above. -/
def answers (ws : List Candidate) (c : Candidate) : Prop := ∃ w ∈ ws, w.key = c.key ∧ c.notAbove w

theorem answers_cons (answered : answers ws c) : answers (w :: ws) c :=
  answered.imp fun _ h => h.imp_left (List.mem_cons_of_mem w)

/-- Entering a candidate answers it and every candidate that was answered. -/
theorem enterWinner_answers (c : Candidate) : ∀ ws : List Candidate,
    answers (enterWinner c ws) c ∧ ∀ w ∈ ws, answers (enterWinner c ws) w
  | [] => ⟨⟨c, List.mem_singleton_self c, rfl, c.notAbove_refl⟩, nofun⟩
  | a :: rest => by
    rw [enterWinner]
    split
    · exact ⟨⟨c, List.mem_cons_self, rfl, c.notAbove_refl⟩, fun w mem => ⟨w, List.mem_cons_of_mem c mem, rfl, w.notAbove_refl⟩⟩
    · split
      · next same =>
        have kept : ∀ w ∈ rest, answers ((if c.beats a then c else a) :: rest) w :=
          fun w mem => ⟨w, List.mem_cons_of_mem _ mem, rfl, w.notAbove_refl⟩
        by_cases beats : c.beats a = true
        · rw [if_pos beats] at kept ⊢
          exact ⟨⟨c, List.mem_cons_self, rfl, c.notAbove_refl⟩, List.forall_mem_cons.mpr
            ⟨⟨c, List.mem_cons_self, same, Candidate.notAbove_of_beats beats⟩, kept⟩⟩
        · rw [if_neg beats] at kept ⊢
          exact ⟨⟨a, List.mem_cons_self, same.symm, Candidate.notAbove_of_not_beats beats⟩, List.forall_mem_cons.mpr
            ⟨⟨a, List.mem_cons_self, rfl, a.notAbove_refl⟩, kept⟩⟩
      · obtain ⟨new, old⟩ := enterWinner_answers c rest
        exact ⟨answers_cons new, List.forall_mem_cons.mpr
          ⟨⟨a, List.mem_cons_self, rfl, a.notAbove_refl⟩, fun w mem => answers_cons (old w mem)⟩⟩

theorem answers_trans (first : answers ws c) (second : ∀ w ∈ ws, answers cs w) : answers cs c := by
  obtain ⟨w, mem, key, above⟩ := first
  obtain ⟨v, mem', key', above'⟩ := second w mem
  exact ⟨v, mem', key'.trans key, Candidate.notAbove_trans above above'⟩

theorem foldl_enterWinner_answers (cs ws : List Candidate) :
    (∀ c ∈ cs, answers (cs.foldl (fun ws c => enterWinner c ws) ws) c) ∧ ∀ w ∈ ws, answers (cs.foldl (fun ws c => enterWinner c ws) ws) w := by
  induction cs generalizing ws with
  | nil => exact ⟨nofun, fun w mem => ⟨w, mem, rfl, w.notAbove_refl⟩⟩
  | cons c rest ih =>
    obtain ⟨later, entered⟩ := ih (enterWinner c ws)
    obtain ⟨new, old⟩ := enterWinner_answers c ws
    exact ⟨List.forall_mem_cons.mpr ⟨answers_trans new entered, later⟩, fun w mem => answers_trans (old w mem) entered⟩

theorem mem_foldl_enterWinner (mem : w ∈ cs.foldl (fun ws c => enterWinner c ws) ws) : w ∈ cs ∨ w ∈ ws := by
  induction cs generalizing ws with
  | nil => exact .inr mem
  | cons c rest ih =>
    rcases ih mem with mem | mem
    · exact .inl (List.mem_cons_of_mem c mem)
    · exact (mem_enterWinner mem).imp (fun is => List.mem_cons.mpr (.inl is)) id

/-- In key order each key has one place. -/
theorem eq_of_key (ordered : ws.Pairwise fun a b => a.key.toNat < b.key.toNat) (left : w ∈ ws) (right : z ∈ ws) (key : w.key = z.key) : w = z := by
  induction ws with
  | nil => cases left
  | cons a rest ih =>
    obtain ⟨first, later⟩ := List.pairwise_cons.mp ordered
    rcases List.mem_cons.mp left with rfl | behind
    · rcases List.mem_cons.mp right with same | right
      · exact same.symm
      · exact absurd (congrArg BitVec.toNat key) (Nat.ne_of_lt (first z right))
    · rcases List.mem_cons.mp right with rfl | further
      · exact absurd (congrArg BitVec.toNat key).symm (Nat.ne_of_lt (first w behind))
      · exact ih later behind further

/-- A winner is a valid candidate, and no valid candidate of its key stands above it. -/
theorem winnersOf_top (mem : w ∈ winnersOf cs) : w ∈ cs ∧ w.valid cs = true ∧ ∀ c ∈ cs, c.valid cs = true → c.key = w.key → c.notAbove w := by
  have entered := (mem_foldl_enterWinner mem).resolve_right List.not_mem_nil
  refine ⟨(List.mem_filter.mp entered).1, (List.mem_filter.mp entered).2, fun c mem' valid key => ?_⟩
  obtain ⟨v, is, key', above⟩ := (foldl_enterWinner_answers (cs.filter (Candidate.valid cs)) []).1 c (List.mem_filter.mpr ⟨mem', valid⟩)
  exact eq_of_key (winnersOf_ordered cs) is mem (key'.trans key) ▸ above

/-- Each valid candidate has a winner of its key. -/
theorem winnersOf_of_valid (mem : c ∈ cs) (valid : c.valid cs = true) : ∃ w ∈ winnersOf cs, w.key = c.key := by
  obtain ⟨w, is, key, _⟩ := (foldl_enterWinner_answers (cs.filter (Candidate.valid cs)) []).1 c (List.mem_filter.mpr ⟨mem, valid⟩)
  exact ⟨w, is, key⟩

/-! ### The winners that are kept (R120) -/

theorem length_enterWinner_of_new (new : ∀ w ∈ ws, w.key ≠ c.key) : (enterWinner c ws).length = ws.length + 1 := by
  induction ws with
  | nil => rfl
  | cons a rest ih =>
    obtain ⟨first, later⟩ := List.forall_mem_cons.mp new
    rw [enterWinner]
    split
    · rfl
    · rw [if_neg first.symm, List.length_cons, ih later, List.length_cons]

/-- The winner of the zone record alone is kept beside the others. -/
theorem zoneWinners (ordered : ws.Pairwise fun a b => a.key.toNat < b.key.toNat) :
    ws.filter (fun w => decide (w.key = Config.zoneKey)) = [] ∨ ∃ z, ws.filter (fun w => decide (w.key = Config.zoneKey)) = [z] := by
  have apart := ordered.filter fun w => decide (w.key = Config.zoneKey)
  have keys : ∀ w ∈ ws.filter (fun w => decide (w.key = Config.zoneKey)), w.key = Config.zoneKey := fun w mem => of_decide_eq_true (List.mem_filter.mp mem).2
  generalize ws.filter (fun w => decide (w.key = Config.zoneKey)) = zone at apart keys
  match zone with
  | [] => exact .inl rfl
  | [z] => exact .inr ⟨z, rfl⟩
  | y :: z :: _ =>
    have less := (List.pairwise_cons.mp apart).1 z List.mem_cons_self
    rw [keys y List.mem_cons_self, keys z (List.mem_cons_of_mem y List.mem_cons_self)] at less
    exact absurd less (Nat.lt_irrefl _)

theorem mem_of_keptWinners (mem : w ∈ keptWinners ws) : w ∈ ws := by
  rcases mem_foldl_enterWinner mem with mem | mem
  · exact (List.mem_filter.mp mem).1
  · exact (List.mem_filter.mp (List.mem_of_mem_take mem)).1

/-- How many winners are kept: no more than 512, and of the others as many as fit beside the zone record's. -/
theorem length_keptWinners (ordered : ws.Pairwise fun a b => a.key.toNat < b.key.toNat) :
    (keptWinners ws).length = min (512 - (ws.filter fun w => decide (w.key = Config.zoneKey)).length)
      (ws.filter fun w => decide (w.key ≠ Config.zoneKey)).length + (ws.filter fun w => decide (w.key = Config.zoneKey)).length := by
  rw [keptWinners]
  rcases zoneWinners ordered with none' | ⟨z, one⟩
  · rw [none']
    exact List.length_take
  · have is : z ∈ ws.filter fun w => decide (w.key = Config.zoneKey) := by
      rw [one]
      exact List.mem_singleton_self z
    have key : z.key = Config.zoneKey := of_decide_eq_true (List.mem_filter.mp is).2
    have new : ∀ w ∈ (ws.filter fun w => decide (w.key ≠ Config.zoneKey)).take (512 - 1), w.key ≠ z.key := fun w mem => by
      rw [key]
      exact of_decide_eq_true (List.mem_filter.mp (List.mem_of_mem_take mem)).2
    rw [one]
    refine (length_enterWinner_of_new new).trans ?_
    rw [List.length_take, List.length_singleton]

/-- At most 512 winners are kept, and all where fewer are. -/
theorem keptWinners_bound (ordered : ws.Pairwise fun a b => a.key.toNat < b.key.toNat) :
    (keptWinners ws).length ≤ 512 ∧ ((keptWinners ws).length < 512 → ∀ w ∈ ws, ∃ v ∈ keptWinners ws, v.key = w.key) := by
  have few : (ws.filter fun w => decide (w.key = Config.zoneKey)).length ≤ 1 := by
    rcases zoneWinners ordered with none' | ⟨z, one⟩
    · rw [none']
      exact Nat.zero_le 1
    · rw [one]
      exact Nat.le_refl _
  have length := length_keptWinners ordered
  refine ⟨by omega, fun short w mem => ?_⟩
  have fits : (ws.filter fun w => decide (w.key ≠ Config.zoneKey)).length ≤ 512 - (ws.filter fun w => decide (w.key = Config.zoneKey)).length := by omega
  obtain ⟨zones, others⟩ := foldl_enterWinner_answers (ws.filter fun w => decide (w.key = Config.zoneKey))
    ((ws.filter fun w => decide (w.key ≠ Config.zoneKey)).take (512 - (ws.filter fun w => decide (w.key = Config.zoneKey)).length))
  have answered : answers (keptWinners ws) w := by
    by_cases zone : w.key = Config.zoneKey
    · exact zones w (List.mem_filter.mpr ⟨mem, decide_eq_true zone⟩)
    · exact others w (by
        rw [List.take_of_length_le fits]
        exact List.mem_filter.mpr ⟨mem, decide_eq_true zone⟩)
  obtain ⟨v, is, key, _⟩ := answered
  exact ⟨v, is, key⟩

end

/-! ### The mark table (R121) -/

section
variable {entries : List DirEntry} {cs : List Candidate} {m : MarkEntry} {g u : Gen}

theorem mem_insertGeneration : ∀ {gs : List Gen}, u ∈ insertGeneration g gs → u = g ∨ u ∈ gs
  | [], mem => .inl (List.mem_singleton.mp mem)
  | v :: rest, mem => by
    rw [insertGeneration] at mem
    split at mem
    · exact List.mem_cons.mp mem
    · split at mem
      · exact .inr mem
      · rcases List.mem_cons.mp mem with rfl | mem
        · exact .inr List.mem_cons_self
        · exact (mem_insertGeneration mem).imp_right (List.mem_cons_of_mem v)

theorem mem_foldl_insertGeneration {es : List DirEntry} {gs : List Gen}
    (mem : g ∈ es.foldl (fun gs e => insertGeneration e.generation gs) gs) : (∃ e ∈ es, e.generation = g) ∨ g ∈ gs := by
  induction es generalizing gs with
  | nil => exact .inr mem
  | cons e rest ih =>
    rcases ih mem with ⟨d, is, same⟩ | mem
    · exact .inl ⟨d, List.mem_cons_of_mem e is, same⟩
    · exact (mem_insertGeneration mem).imp_left fun same => ⟨e, List.mem_cons_self, same.symm⟩

/-- Each generation that the mark table takes up has a TAGGED entry. -/
theorem mem_taggedGenerations (mem : g ∈ taggedGenerations entries) : ∃ e ∈ entries, e.tagging = .tagged ∧ e.generation = g := by
  obtain ⟨e, is, same⟩ := (mem_foldl_insertGeneration mem).resolve_right List.not_mem_nil
  exact ⟨e, (List.mem_filter.mp is).1, of_decide_eq_true (List.mem_filter.mp is).2, same⟩

/-- A mark of the rebuilt table is a MARK among the candidates, with the number of its dependents, of which it has one. -/
theorem mem_rebuildMarks (mem : m ∈ rebuildMarks cs entries) :
    m.dependents = dependentsOf entries m.generation ∧ 1 ≤ m.dependents ∧
      ∃ c ∈ cs, c.kind = .mark ∧ c.generation = m.generation ∧ c.loc = m.loc := by
  obtain ⟨g, tagged, entry⟩ := List.mem_filterMap.mp mem
  obtain ⟨c, chosen, rfl⟩ := Option.map_eq_some_iff.mp entry
  obtain ⟨is, mark⟩ := List.mem_filter.mp (mem_of_selectBy chosen)
  rw [Bool.and_eq_true, decide_eq_true_iff, decide_eq_true_iff] at mark
  obtain ⟨e, listed, tagging, generation⟩ := mem_taggedGenerations tagged
  refine ⟨rfl, List.countP_pos_iff.mpr ⟨e, listed, ?_⟩, c, is, mark.1, mark.2, rfl⟩
  rw [decide_eq_true tagging, decide_eq_true generation]
  rfl

end

end Sys2Proof.Machine
end

section
/-! PROOFS. Mount on a formatted array: header scan, image scan and resolve (R112 to R123). -/

namespace Sys2Proof.Machine

/-! ### What resolve rebuilds -/

/-- The candidates of the image scan at mount. -/
def CellArray.mountCandidates (a : CellArray) (epoch : Word32) : List Candidate :=
  (a.scanImages (a.classesOf epoch) (a.surplusOpen (a.classesOf epoch))).candidates

/-- The generation counter that resolve sets. -/
def CellArray.mountCounter (a : CellArray) (epoch : Word32) : Gen :=
  counterAfter (a.scanImages (a.classesOf epoch) (a.surplusOpen (a.classesOf epoch))).highest

/-- The directory that resolve rebuilds. -/
def CellArray.mountDirectory (a : CellArray) (epoch : Word32) : List DirEntry :=
  (keptWinners (winnersOf (a.mountCandidates epoch))).map Candidate.entry

section
variable {s : State} {epoch : Word32}

/-- Resolve beside the sector records: what it rebuilds, and the mount record for the sweep. -/
theorem State.resolve_eq (s : State) (epoch : Word32) : ∃ (sectors : Vector SectorRecord 32) (zones : ZoneTable) (m : MountRecord),
    s.resolve epoch = { s with
      sectors := sectors
      epoch := epoch
      openSequenceNext := afterHighest openSequenceAfter (s.array.highest openSequenceOf)
      generationNext := s.array.mountCounter epoch
      directory := s.array.mountDirectory epoch
      marks := rebuildMarks (s.array.mountCandidates epoch) (s.array.mountDirectory epoch)
      zones := zones
      mount := some m } ∧
    (∀ x : Sector, ∃ closing stop live retired,
      sectors[x] = s.array.recordOf ((s.array.classesOf epoch).getD x.val .stale) closing stop live retired x) ∧
    ∀ x ∈ m.victims, x ∈ s.array.bySequence (sectorsOf (s.array.classesOf epoch) .victim) := by
  unfold State.resolve
  extract_lets a classes surplus scan winners entries marks closeList victims retiredCount stopOf next t
  have frame : t = { s with sectors := t.sectors } := s.setRecords_frame _
  have record (x : Sector) : t.sectors[x] =
    a.recordOf (classes.getD x.val .stale) (closeList.contains x) (stopOf x) (liveIn entries marks x) retiredCount x := s.setRecords_sector _ x
  clear_value t
  rw [frame]
  exact ⟨t.sectors, _, _, rfl, fun x => ⟨_, _, _, _, record x⟩, fun x mem => (List.mem_filter.mp mem).1⟩

end

/-! ### The directory and the mark table (R118 to R121) -/

section
variable {a : CellArray} {epoch : Word32}

/-- The candidate that mount makes of an image. -/
def CellArray.mountCandidate (a : CellArray) (epoch : Word32) (loc : Loc) (h : ImageHeader) : Candidate :=
  a.candidate (decide (a.classOf epoch loc.sector = .victim)) (loc, h)

theorem CellArray.mem_mountCandidates (tops : a.epochTops epoch) {c : Candidate} :
    c ∈ a.mountCandidates epoch ↔ ∃ loc h, a.readable epoch loc h ∧ a.payloadAgrees loc h = true ∧ c = a.mountCandidate epoch loc h :=
  CellArray.mem_candidates tops

/-- The MARK of a generation is found where an intact one stands on the array. -/
theorem CellArray.hasMark_iff (tops : a.epochTops epoch) {g : Gen} : hasMark (a.mountCandidates epoch) g = true ↔
    ∃ (at' : Loc) (m : ImageHeader), a.readable epoch at' m ∧ a.payloadAgrees at' m = true ∧ m.kind = .mark ∧ m.generation = g := by
  rw [hasMark, List.any_eq_true]
  constructor
  · rintro ⟨c, mem, mark⟩
    obtain ⟨loc, h, readable, agrees, rfl⟩ := (CellArray.mem_mountCandidates tops).mp mem
    rw [Bool.and_eq_true, decide_eq_true_iff, decide_eq_true_iff] at mark
    exact ⟨loc, h, readable, agrees, mark.1, mark.2⟩
  · rintro ⟨loc, h, readable, agrees, kind, generation⟩
    refine ⟨_, (CellArray.mem_mountCandidates tops).mpr ⟨loc, h, readable, agrees, rfl⟩, ?_⟩
    rw [Bool.and_eq_true, decide_eq_true_iff, decide_eq_true_iff]
    exact ⟨kind, generation⟩

theorem CellArray.valid_iff (tops : a.epochTops epoch) {loc : Loc} {h : ImageHeader} :
    (a.mountCandidate epoch loc h).valid (a.mountCandidates epoch) = true ↔ h.kind ≠ .mark ∧
      (h.tagging = .solo ∨ ∃ (at' : Loc) (m : ImageHeader), a.readable epoch at' m ∧ a.payloadAgrees at' m = true ∧ m.kind = .mark
        ∧ m.generation = h.generation) := by
  rw [Candidate.valid, Bool.and_eq_true, Bool.or_eq_true, decide_eq_true_iff, decide_eq_true_iff, CellArray.hasMark_iff tops]
  rfl

/-- The images that stand give the valid candidates. -/
theorem CellArray.stands_candidate (tops : a.epochTops epoch) {loc : Loc} {h : ImageHeader} (stands : a.stands epoch loc h) :
    a.mountCandidate epoch loc h ∈ a.mountCandidates epoch ∧ (a.mountCandidate epoch loc h).valid (a.mountCandidates epoch) = true := by
  obtain ⟨readable, agrees, counts⟩ := stands
  exact ⟨(CellArray.mem_mountCandidates tops).mpr ⟨loc, h, readable, agrees, rfl⟩, (CellArray.valid_iff tops).mpr counts⟩

/-- A winner is an image that stands, and none that stands for its key is above it. -/
theorem CellArray.winner_stands (tops : a.epochTops epoch) {w : Candidate} (mem : w ∈ winnersOf (a.mountCandidates epoch)) :
    ∃ loc h, w = a.mountCandidate epoch loc h ∧ a.stands epoch loc h ∧ ∀ at' g, a.stands epoch at' g → g.key = h.key →
      g.generation.toNat ≤ h.generation.toNat ∧ (g.generation = h.generation → g.tagging = .solo → h.tagging = .solo) := by
  obtain ⟨is, valid, top⟩ := winnersOf_top mem
  obtain ⟨loc, h, readable, agrees, rfl⟩ := (CellArray.mem_mountCandidates tops).mp is
  refine ⟨loc, h, rfl, ⟨readable, agrees, (CellArray.valid_iff tops).mp valid⟩, fun at' g stands key => ?_⟩
  obtain ⟨among, valid'⟩ := CellArray.stands_candidate tops stands
  exact top _ among valid' key

/-- The entry of an image. -/
theorem CellArray.mountCandidate_entry (loc : Loc) (h : ImageHeader) : (a.mountCandidate epoch loc h).entry
    = ⟨h.key, if h.kind = .value then .live else .deleted, loc, h.length, h.generation, h.tagging⟩ := by
  have state : (a.mountCandidate epoch loc h).entry.state = if h.kind = .value then .live else .deleted := by
    change (match h.kind with
      | .value => EntryState.live
      | _ => EntryState.deleted) = _
    cases h.kind <;> rfl
  rw [← state]
  rfl

/-- An entry of the rebuilt directory points at an image that stands, and none that stands for its key is above it. -/
theorem CellArray.mountDirectory_stands (tops : a.epochTops epoch) {e : DirEntry} (mem : e ∈ a.mountDirectory epoch) :
    ∃ h, a.stands epoch e.loc h ∧ h.key = e.key ∧
      e = ⟨e.key, if h.kind = .value then .live else .deleted, e.loc, h.length, h.generation, h.tagging⟩ ∧
      ∀ at' g, a.stands epoch at' g → g.key = e.key → g.generation.toNat ≤ h.generation.toNat ∧
        (g.generation = h.generation → g.tagging = .solo → h.tagging = .solo) := by
  obtain ⟨w, kept, rfl⟩ := List.mem_map.mp mem
  obtain ⟨loc, h, rfl, stands, top⟩ := CellArray.winner_stands tops (mem_of_keptWinners kept)
  rw [CellArray.mountCandidate_entry]
  exact ⟨h, stands, rfl, rfl, top⟩

/-- At most 512 entries are kept, and an entry for every key with an image that stands where fewer are. -/
theorem CellArray.mountDirectory_bound (tops : a.epochTops epoch) : (a.mountDirectory epoch).length ≤ 512 ∧
    ((a.mountDirectory epoch).length < 512 → ∀ loc h, a.stands epoch loc h → ∃ e ∈ a.mountDirectory epoch, e.key = h.key) := by
  have length : (a.mountDirectory epoch).length = (keptWinners (winnersOf (a.mountCandidates epoch))).length := List.length_map _
  obtain ⟨bound, all⟩ := keptWinners_bound (winnersOf_ordered (a.mountCandidates epoch))
  rw [length]
  refine ⟨bound, fun short loc h stands => ?_⟩
  obtain ⟨among, valid⟩ := CellArray.stands_candidate tops stands
  obtain ⟨w, won, key⟩ := winnersOf_of_valid among valid
  obtain ⟨v, kept, same⟩ := all short w won
  exact ⟨v.entry, List.mem_map_of_mem kept, same.trans key⟩

/-- A mark of the rebuilt table lies where the scan reads it, and its dependents are counted. -/
theorem CellArray.mountMarks (tops : a.epochTops epoch) {m : MarkEntry}
    (mem : m ∈ rebuildMarks (a.mountCandidates epoch) (a.mountDirectory epoch)) :
    m.dependents = (a.mountDirectory epoch).countP (fun e => decide (e.generation = m.generation ∧ e.tagging = .tagged)) ∧
      1 ≤ m.dependents ∧ ∃ h, a.readable epoch m.loc h ∧ h.kind = .mark ∧ h.generation = m.generation := by
  obtain ⟨count, some', c, is, kind, generation, loc⟩ := mem_rebuildMarks mem
  obtain ⟨at', h, readable, _, rfl⟩ := (CellArray.mem_mountCandidates tops).mp is
  refine ⟨count.trans (List.countP_congr fun e _ => ?_), some', h, loc ▸ readable, kind, generation⟩
  rw [Bool.and_eq_true, decide_eq_true_iff, decide_eq_true_iff, decide_eq_true_iff]
  exact and_comm

end

/-! ### The open-sequence counter (R114) -/

section
variable {a : CellArray} {v : Word32}

theorem CellArray.highest_openSequence_none (none' : ∀ (x : Sector) (v : Word32), a.headers[x] ≠ 0 → readOpenSequence a.headers[x] ≠ .valid v) :
    a.highest openSequenceOf = none :=
  CellArray.highest_eq_none fun x => Option.eq_none_iff_forall_ne_some.mpr fun v is =>
    none' x v (openSequenceOf_eq_some.mp is).1 (openSequenceOf_eq_some.mp is).2

theorem CellArray.highest_openSequence {x : Sector} (other : a.headers[x] ≠ 0) (valid : readOpenSequence a.headers[x] = .valid v)
    (above : ∀ (y : Sector) (w : Word32), a.headers[y] ≠ 0 → readOpenSequence a.headers[y] = .valid w → w.toNat ≤ v.toNat) :
    a.highest openSequenceOf = some v :=
  CellArray.highest_of ⟨x, openSequenceOf_eq_some.mpr ⟨other, valid⟩⟩ fun y w is =>
    above y w (openSequenceOf_eq_some.mp is).1 (openSequenceOf_eq_some.mp is).2

/-- The header scan finds the store epoch. -/
theorem CellArray.highest_epoch {epoch count : Word32} {x : Sector} (valid : readPrepared a.headers[x] = .valid (epoch, count))
    (tops : a.epochTops epoch) : a.highest (fun h => (preparedOf h).map (·.1)) = some epoch := by
  refine CellArray.highest_of ⟨x, by rw [preparedOf_eq_some.mpr valid]; rfl⟩ fun y e read => ?_
  obtain ⟨⟨e', count'⟩, is, rfl⟩ := Option.map_eq_some_iff.mp read
  exact tops y e' count' (preparedOf_eq_some.mp is)

end

end Sys2Proof.Machine
end

section
/-! PROOFS. RESET_RELEASE on a formatted array (R112 to R123). -/

namespace Sys2Proof.Machine

section
variable {s : State} {m : MountRecord} {epoch : Word32}

/-- A mount that finds a prepared block goes from resolve to the sweep, which keeps what was found. -/
theorem State.mountScan_found (highest : s.array.highest (fun h => (preparedOf h).map (·.1)) = some epoch)
    (mount : (s.resolve epoch).mount = some m) (none' : (s.resolve epoch).pass = none)
    (still : (s.resolve epoch).supply = .low ∨ m.victims = []) : s.mountScan.settle.found = (s.resolve epoch).found := by
  have scan : s.mountScan = (s.resolve epoch).sweepOn := by rw [State.mountScan, highest]
  rw [State.settle_found, scan]
  exact State.sweepOn_found mount none' still

/-- With no scanned sector that carries the VICTIM mark none is classed VICTIM. -/
theorem CellArray.noVictim {a : CellArray} (tops : a.epochTops epoch) (clear : ∀ x : Sector, a.scanned epoch x → victimMarkSet a.headers[x] = false)
    (x : Sector) : x ∉ a.bySequence (sectorsOf (a.classesOf epoch) .victim) := by
  intro mem
  have victim := CellArray.mem_sectorsOf.mp (CellArray.mem_bySequence.mp mem)
  have scanned : a.scanned epoch x := (CellArray.scanned_iff (tops x)).mpr (by rw [victim]; rfl)
  have unmarked := clear x scanned
  obtain ⟨⟨count, valid⟩, _⟩ := scanned
  rw [CellArray.classOf_of_prepared valid] at victim
  have marked := victimMarkSet_of_class victim
  rw [unmarked] at marked
  cases marked

end

/-- The record of a sector whose header holds a valid prepared block of the store epoch. -/
theorem CellArray.recordOf_prepared {a : CellArray} {epoch count retired : Word32} {x : Sector} {closing : Bool} {stop live : Nat} {r : SectorRecord}
    (record : r = a.recordOf (a.classOf epoch x) closing stop live retired x) (valid : readPrepared a.headers[x] = .valid (epoch, count)) :
    (readOpenSequence a.headers[x] = .absent → (fullMarkSet a.headers[x] || victimMarkSet a.headers[x]) = false → r = ⟨.erased, count, 0, 0, 0⟩) ∧
    (∀ v, readOpenSequence a.headers[x] = .valid v → r.state.openSequence = some v ∧ r.eraseCount = count) ∧
    (readOpenSequence a.headers[x] = .torn ∨
      (readOpenSequence a.headers[x] = .absent ∧ (fullMarkSet a.headers[x] || victimMarkSet a.headers[x]) = true) → r.state = .unscanned) := by
  rw [CellArray.classOf_of_prepared valid] at record
  subst record
  refine ⟨fun absent unmarked => ?_, fun v opened => ?_, fun torn => ?_⟩
  · rw [preparedClass_of_erased absent unmarked, ← CellArray.countOf_of_prepared valid]
    rfl
  · rw [← CellArray.countOf_of_prepared valid, ← CellArray.sequenceOf_of_valid (ne_zero_of_prepared valid) opened]
    exact CellArray.recordOf_of_scanned ((preparedClass_isScanned _).mpr ⟨v, opened⟩)
  · exact CellArray.recordOf_of_waiting (.inr (preparedClass_of_stale torn))

/-- Settles O23: resolve rebuilds the store from what the scans read, and the sweep's first step keeps it. -/
theorem mountFindsTheStore : Obligations.MountFindsTheStore := by
  intro s supply rate epoch held none' prepared tops clear a marked
  obtain ⟨y, count, valid⟩ := prepared
  let released : State := { s with held := false, supply := supply, uartRate := rate }
  obtain ⟨sectors, zones, m, resolved, records, victims⟩ := released.resolve_eq epoch
  have still : supply = .low ∨ m.victims = [] := clear.imp_right fun clear =>
    List.eq_nil_iff_forall_not_mem.mpr fun x mem => CellArray.noVictim tops clear x (victims x mem)
  have found := State.mountScan_found (s := released) (m := m) (CellArray.highest_epoch valid tops) (by rw [resolved]) (by rw [resolved]; exact none')
    (by rw [resolved]; exact still)
  refine ⟨released.mountScan.settle, exec_resetRelease held supply rate, ?_⟩
  generalize released.mountScan.settle = t at found ⊢
  rw [resolved] at found
  simp only [State.found, Found.mk.injEq] at found
  obtain ⟨held', supply', rate', array, epoch', table, sequence, generation, directory, marks⟩ := found
  have record (x : Sector) : ∃ closing stop live retired, t.sectors[x] = a.recordOf (a.classOf epoch x) closing stop live retired x := by
    obtain ⟨closing, stop, live, retired, is⟩ := records x
    rw [CellArray.classesOf, getD_map_allSectors (released.array.classOf epoch) x] at is
    exact ⟨closing, stop, live, retired, by rw [table]; exact is⟩
  obtain ⟨above, follows⟩ := CellArray.counterAfter_scan (surplus := a.surplusOpen (a.classesOf epoch)) tops
  obtain ⟨bound, all⟩ := CellArray.mountDirectory_bound tops
  rw [generation, directory, marks]
  refine ⟨held', supply', rate', array, epoch', fun x zero => ?_, fun x other invalid => ?_, fun x count valid => ?_, fun none' => ?_,
    fun x v other valid below tops' => ?_, above, follows, fun k e found => ?_, bound,
    fun short loc h stands => ?_, fun mark mem => CellArray.mountMarks tops mem⟩
  · obtain ⟨closing, stop, live, retired, is⟩ := record x
    rw [is, CellArray.classOf_of_zero zero]
    rfl
  · obtain ⟨closing, stop, live, retired, is⟩ := record x
    rw [is]
    exact CellArray.recordOf_of_waiting (CellArray.classOf_of_unprepared other invalid (tops x))
  · obtain ⟨closing, stop, live, retired, is⟩ := record x
    exact CellArray.recordOf_prepared is valid
  · rw [sequence, CellArray.highest_openSequence_none none']
    rfl
  · rw [sequence, CellArray.highest_openSequence other valid tops']
    exact if_neg below
  · rw [State.lookup, directory] at found
    obtain ⟨h, stands, key, is, top⟩ := CellArray.mountDirectory_stands tops (List.mem_of_find?_eq_some found)
    have same : e.key = k := by simpa using List.find?_some found
    subst same
    exact ⟨h, stands, key, is, top⟩
  · obtain ⟨e, mem, key⟩ := all short loc h stands
    refine Option.isSome_iff_exists.mp ?_
    rw [State.lookup, directory]
    exact List.find?_isSome.mpr ⟨e, mem, beq_iff_eq.mpr key⟩

end Sys2Proof.Machine
end
